-- ==== Sys2Proof/Word.lean ====
section
/-! DEFINITION. The words of the OC2418 and the index types of its tables. -/

namespace Sys2Proof

/-- One byte of a frame, a profile field or a lane transfer. -/
abbrev Byte := BitVec 8

/-- A 32-bit bridge address or window field (R1). -/
abbrev Addr := BitVec 32

/-- Target index T0–T7 (00_scope 5). -/
abbrev Target := Fin 8

/-- Lane index L0–L3 (00_scope 5). -/
abbrev LaneIx := Fin 4

/-- Window index W0–W15 (R1). -/
abbrev WinIx := Fin 16

/-- Tag of a transaction, the index of its slot (R47). -/
abbrev Tag := Fin 32

/-- Event source index E0–E15 (R118). -/
abbrev SrcIx := Fin 16

/-- Levels of the four LKn inputs, lane 0 first; `true` is high, that is released (R80). -/
abbrev LkLevels := Vector Bool 4

end Sys2Proof
end

