-- ==== Sys2Proof/Syntax.lean ====
section
/-! DEFINITION. The commands of the OC2418: one constructor for each row of spec/opcode_table.json.

A request row is a frame of that KIND, with its SEQ and its payload as they stand in the frame
(R139, R167). `lk` gives the levels of LK0–LK3 as the part finds them while the command is taken;
the rows that may sample LKn carry it (log 3). -/

namespace Sys2Proof

inductive Instr where
  /-- COLD_RESET (R174). -/
  | coldReset
  /-- COLD_RESET_END (R175): the levels of RATE1–0 and CFGSRC at the sampling. -/
  | coldResetEnd (rate : BitVec 2) (cfgsrc : Bool) (lk : LkLevels)
  /-- RECEIVE_BYTE (R140): a character with a high stop bit. -/
  | receiveByte (b : Byte) (lk : LkLevels)
  /-- GAP_TIMEOUT (R144). -/
  | gapTimeout
  /-- LINE_LOW (R145): a character with a low stop bit. -/
  | lineLow
  /-- HRX_RISE (R145). -/
  | hrxRise
  /-- BREAK (R156): the line timer reaches 1 ms. -/
  | lineBreak
  /-- CACHE_REPLAY (R152): a frame sent again. -/
  | cacheReplay (seq kind : Byte) (payload : List Byte)
  /-- UNKNOWN_KIND (R173): a frame whose KIND is no request kind. -/
  | unknownKind (seq kind : Byte) (payload : List Byte)
  /-- IDENTIFY (R159). -/
  | identify (seq : Byte) (payload : List Byte)
  /-- OPEN (R154). -/
  | openSession (seq : Byte) (payload : List Byte)
  /-- CLOSE (R155). -/
  | closeSession (seq : Byte) (payload : List Byte)
  /-- CREDIT (R109). -/
  | credit (seq : Byte) (payload : List Byte)
  /-- WIN_SET (R11). -/
  | winSet (seq : Byte) (payload : List Byte)
  /-- WIN_OPEN (R12). -/
  | winOpen (seq : Byte) (payload : List Byte)
  /-- WIN_CLOSE (R13). -/
  | winClose (seq : Byte) (payload : List Byte)
  /-- WIN_FREE (R14). -/
  | winFree (seq : Byte) (payload : List Byte)
  /-- WIN_QUERY (R15). -/
  | winQuery (seq : Byte) (payload : List Byte)
  /-- PROF_SET (R26). -/
  | profSet (seq : Byte) (payload : List Byte)
  /-- PROF_QUERY (R29). -/
  | profQuery (seq : Byte) (payload : List Byte)
  /-- SUBMIT (R51). -/
  | submit (seq : Byte) (payload : List Byte) (lk : LkLevels)
  /-- COLLECT (R101). -/
  | collect (seq : Byte) (payload : List Byte)
  /-- ABORT (R65). -/
  | abort (seq : Byte) (payload : List Byte) (lk : LkLevels)
  /-- SLOT_QUERY (R68). -/
  | slotQuery (seq : Byte) (payload : List Byte)
  /-- LANE_QUERY (R93). -/
  | laneQuery (seq : Byte) (payload : List Byte) (lk : LkLevels)
  /-- LANE_RESUME (R89): `lk` as its check finds the levels, `lkGrant` as the grant after it does. -/
  | laneResume (seq : Byte) (payload : List Byte) (lk lkGrant : LkLevels)
  /-- LANE_RESET (R90). -/
  | laneReset (seq : Byte) (payload : List Byte) (lk : LkLevels)
  /-- EVT_SET (R132). -/
  | evtSet (seq : Byte) (payload : List Byte)
  /-- EVT_ACK (R130). -/
  | evtAck (seq : Byte) (payload : List Byte)
  /-- EVT_QUERY (R135). -/
  | evtQuery (seq : Byte) (payload : List Byte)
  /-- CFG_IMAGE (R188). -/
  | cfgImage (seq : Byte) (payload : List Byte)
  /-- FRAME_SENT (R110). -/
  | frameSent (lk : LkLevels)
  /-- ACCESS_END (R41): `data` are the bytes the target drove in the access's data-in phases. -/
  | accessEnd (lane : LaneIx) (data : List Byte) (lk : LkLevels)
  /-- LANE_FAULT (R84): LKn of the lane is asserted. -/
  | laneFault (lane : LaneIx) (lk : LkLevels)
  /-- RETRY_EXPIRY (R57). -/
  | retryExpiry (tag : Tag) (lk : LkLevels)
  /-- HOLD_EXPIRY (R104). -/
  | holdExpiry (tag : Tag)
  /-- ATTN_FALL (R44): the RDY/ATTN pin of the target falls. -/
  | attnFall (t : Target)
  /-- ATTN_RISE (R44): the RDY/ATTN pin of the target rises. -/
  | attnRise (t : Target)
  /-- FILTER_EXPIRY (R44). -/
  | filterExpiry (t : Target)
  /-- START_BIT (R144). -/
  | startBit
  deriving DecidableEq, Repr

end Sys2Proof
end

