-- ==== Sys2Proof/Config.lean ====
section
/-! DEFINITION. What the spec leaves to the board and the targets: one free value, with no body. -/

namespace Sys2Proof.Config

/-- The byte a data-in phase yields where the target does not drive its lines: "whatever level the
lines hold" (R35), and a released line floats unless the board holds it (R190). A free value: the
argument is `State.freeCount`, so that each such byte may differ. DESIGN CHOICE, log 6. -/
opaque undrivenByte : Nat → Byte

end Sys2Proof.Config
end

