-- ==== Sys2Proof/Machine/State.lean ====
section
/-! DEFINITION. The state of the OC2418, block by block, as plain data, and its reset value. -/

namespace Sys2Proof.Machine

/-! ## Host link: frames, receiver, reply cache -/

/-- One message: SEQ, KIND and payload of a frame (R139). -/
structure Frame where
  seq : Byte
  kind : Byte
  payload : List Byte
  deriving DecidableEq, Repr

/-- The link states of R153. -/
inductive LinkState where
  | loading
  | closed
  | opened
  deriving DecidableEq, Repr

/-- The receiver states of R140. -/
inductive RxState where
  | hunting
  | length
  | body
  | check
  | lineLow
  deriving DecidableEq, Repr

/-- The receiver's fields (R140). The partial frame is `lenBytes` and `body`. In LINE_LOW a stopped
line timer means that the break of this low period was detected (R145, R156). -/
structure Receiver where
  state : RxState
  huntFlag : Bool
  lenBytes : List Byte
  body : List Byte
  sum : Byte
  gapTimer : Bool
  lineTimer : Bool
  deriving DecidableEq, Repr

/-- HUNTING with a clear flag, an empty partial frame and both timers stopped (R140): a new hunt. -/
def Receiver.newHunt : Receiver :=
  { state := .hunting, huntFlag := false, lenBytes := [], body := [], sum := 0,
    gapTimer := false, lineTimer := false }

/-- The reply cache's entry (R152). -/
structure CacheEntry where
  seq : Byte
  kind : Byte
  reply : Frame
  deriving DecidableEq, Repr

/-- The two classes of unsolicited frames; the class pointer names the one served last (R112). -/
inductive FrameClass where
  | completion
  | notice
  deriving DecidableEq, Repr

/-! ## Windows -/

/-- The window states of Table 1-1. -/
inductive WindowState where
  | free
  | closed
  | opened
  | draining
  deriving DecidableEq, Repr

/-- The rights set of a window (R1). -/
structure Rights where
  read : Bool
  write : Bool
  command : Bool
  deriving DecidableEq, Repr

/-- A window record (R1); the index is its place in the table. -/
structure Window where
  state : WindowState
  base : Addr
  limit : Addr
  offset : Addr
  target : Target
  rights : Rights
  outstanding : Nat
  deriving DecidableEq, Repr

/-- A FREE window: every field reads as zero (R1). -/
def Window.freed : Window :=
  { state := .free, base := 0, limit := 0, offset := 0, target := 0,
    rights := { read := false, write := false, command := false }, outstanding := 0 }

/-! ## Profiles -/

/-- The ready methods of R24. -/
inductive ReadyMethod where
  | none
  | statusPoll
  | readyLine
  deriving DecidableEq, Repr

/-- The fourteen fields of a SET profile, in the order of R24. An UNSET record is `none`. -/
structure Profile where
  addressBytes : Nat
  readOpcode : Byte
  readDummy : Nat
  writeOpcode : Byte
  writePreamble : Byte
  dataLines : Nat
  divider : Byte
  pageCode : Nat
  readyMethod : ReadyMethod
  statusOpcode : Byte
  busyMask : Byte
  retryInterval : Nat
  retryLimit : Nat
  attnFilter : Nat
  deriving DecidableEq, Repr

/-! ## Transaction slots -/

/-- The slot states of R49. -/
inductive SlotState where
  | free
  | queued
  | active
  | paused
  | done
  | orphaned
  deriving DecidableEq, Repr

/-- The kinds of transaction (R47). -/
inductive TxKind where
  | read
  | write
  | command
  deriving DecidableEq, Repr

/-- The phases of a transaction (R47). -/
inductive Phase where
  | precheck
  | data
  | postcheck
  deriving DecidableEq, Repr

/-- The completion statuses (R47, R171). -/
inductive CompStatus where
  | success
  | aborted
  | timeout
  | laneFault
  | flushed
  deriving DecidableEq, Repr

/-- A slot record (R47); the tag is its place in the table. `holdTimer` is the hold deadline, kept as
the hold time with which the running timer was started (R64, R104), in units of 10 ms; `retryTimer`
is the interval with which the running retry timer was started (R57), in units of 50 µs. -/
structure Slot where
  state : SlotState
  kind : TxKind
  pullOnly : Bool
  window : WinIx
  target : Target
  address : Nat
  length : Nat
  writeData : List Byte
  opcode : Byte
  usesAddress : Bool
  preamble : Bool
  writePart : List Byte
  readPartLength : Nat
  phase : Phase
  piecesTotal : Nat
  nextPiece : Nat
  progress : Nat
  retryCount : Nat
  abortRequested : Bool
  flushRequested : Bool
  status : Option CompStatus
  result : List Byte
  holdTimer : Option Nat
  retryTimer : Option Nat
  deriving DecidableEq, Repr

/-- A FREE slot: every field reads as zero (R47). -/
def Slot.freed : Slot :=
  { state := .free, kind := .read, pullOnly := false, window := 0, target := 0, address := 0,
    length := 0, writeData := [], opcode := 0, usesAddress := false, preamble := false,
    writePart := [], readPartLength := 0, phase := .precheck, piecesTotal := 0, nextPiece := 0,
    progress := 0, retryCount := 0, abortRequested := false, flushRequested := false,
    status := none, result := [], holdTimer := none, retryTimer := none }

/-! ## Lanes -/

/-- The lane states of R76. -/
inductive LaneState where
  | idle
  | busy
  | faulted
  | resetting
  deriving DecidableEq, Repr

/-- The access types of R76. -/
inductive AccessType where
  | statusPoll
  | read
  | writePiece
  | command
  | bootRead
  deriving DecidableEq, Repr

/-- One phase of a select period (R33): bytes driven on a number of lines, dummy bytes of an access
with that number of data lines, or a number of bytes sampled on a number of lines. -/
inductive BusPhase where
  | drive (lines : Nat) (bytes : List Byte)
  | dummy (dataLines : Nat) (count : Nat)
  | sample (lines : Nat) (count : Nat)
  deriving DecidableEq, Repr

/-- The access in progress on a lane (R76): its slot (none for a boot read), type and select, and its
shape as the grant fixed it: the lane clock divider (R32) and the select periods (R33). -/
structure Access where
  tag : Option Tag
  accessType : AccessType
  select : Fin 2
  divider : Byte
  periods : List (List BusPhase)
  deriving DecidableEq, Repr

/-- A lane record (R76). -/
structure Lane where
  state : LaneState
  pointer : Fin 2
  access : Option Access
  deriving DecidableEq, Repr

/-! ## Events -/

/-- The clear modes of R119. -/
inductive ClearMode where
  | onDelivery
  | onAck
  deriving DecidableEq, Repr

/-- The source states of R121. -/
inductive SourceState where
  | idle
  | queued
  | reported
  deriving DecidableEq, Repr

/-- An event source record (R119). -/
structure Source where
  enabled : Bool
  mode : ClearMode
  state : SourceState
  count : Nat
  reported : Nat
  detail : BitVec 32
  deriving DecidableEq, Repr

/-- A resting source: IDLE with count, reported count and detail 0 (R121). -/
def Source.resting (enabled : Bool) (mode : ClearMode) : Source :=
  { enabled := enabled, mode := mode, state := .idle, count := 0, reported := 0, detail := 0 }

/-- The attention filter states of R44; the filter time runs exactly in FALLING. -/
inductive FilterState where
  | high
  | falling
  | low
  deriving DecidableEq, Repr

/-! ## Configuration loader -/

/-- The load outcomes of R176. -/
inductive LoadOutcome where
  | notAttempted
  | loaded
  | failed
  deriving DecidableEq, Repr

/-- The load phases of R179; no load in progress is `none` of an `Option`. -/
inductive LoadPhase where
  | header
  | body
  deriving DecidableEq, Repr

/-- A boot read of T0: its target address, which is its image offset, and its length (R179). -/
structure BootRead where
  address : Nat
  count : Nat
  deriving DecidableEq, Repr

/-! ## The machine -/

/-- The whole part, its input pins as last found, and the queue of waiting commands. -/
structure State where
  /-- Held in cold reset (R174). -/
  inReset : Bool
  /-- Levels of the RDY/ATTN pins; `true` is high (R43). -/
  rdy : Vector Bool 8
  /-- Levels of the LKn pins; `true` is high, released (R80). -/
  lk : LkLevels
  /-- Level of ALERTn; `true` is high, negated (R115). -/
  alertn : Bool
  /-- Sampled rate code (R175, R138). -/
  rateCode : BitVec 2
  /-- Sampled CFGSRC strap (R175). -/
  cfgsrc : Bool
  /-- Link state (R153). -/
  link : LinkState
  /-- Session number (R154). -/
  session : Nat
  /-- Receiver (R140). -/
  receiver : Receiver
  /-- Inbound buffer, oldest first (R147). -/
  inbound : List Frame
  /-- Reply queue, oldest first (R151). -/
  replies : List Frame
  /-- Reply cache (R152). -/
  cache : Option CacheEntry
  /-- Snapshot of the tables in image form (R187). -/
  snapshot : Option (List Byte)
  /-- Credit counter (R108). -/
  credits : Nat
  /-- Session hold time, units of 10 ms (R103). -/
  holdTime : Nat
  /-- Class pointer: the class of the last unsolicited frame chosen (R112). -/
  lastServed : FrameClass
  /-- Outbound sequence counter (R114). -/
  outSeq : Byte
  /-- Transmitter: the bytes of the frame being sent on HTX, or free (R110). -/
  sending : Option (List Byte)
  /-- Window table (R1). -/
  windows : Vector Window 16
  /-- Profiles; `none` is UNSET (R24). -/
  profiles : Vector (Option Profile) 8
  /-- Transaction slots (R47). -/
  slots : Vector Slot 32
  /-- Target queues, head first (R73). -/
  queues : Vector (List Tag) 8
  /-- Delivery queue, oldest first (R96). -/
  delivery : List Tag
  /-- Discard list, oldest first (R106). -/
  discards : List Tag
  /-- Lane records (R76). -/
  lanes : Vector Lane 4
  /-- Event sources (R119). -/
  sources : Vector Source 16
  /-- Attention filters (R44). -/
  filters : Vector FilterState 8
  /-- Notice queue, oldest first (R124). -/
  notices : List SrcIx
  /-- Load outcome (R176). -/
  loadOutcome : LoadOutcome
  /-- Failure code of the load (R176). -/
  failureCode : Nat
  /-- Load phase; `none` when no load is in progress (R179). -/
  loadPhase : Option LoadPhase
  /-- Load buffer (R179). -/
  loadBuffer : List Byte
  /-- The boot read presented to L0 or in progress there (R179, R83). -/
  bootRead : Option BootRead
  /-- The MODEL's own: how many free bytes have been used (log 6). -/
  freeCount : Nat
  /-- The MODEL's own: inside a LANE_RESUME, the LKn levels its grant finds when they are not those
  of its check (R89); none between commands (log 3). -/
  lkAtGrant : Option LkLevels
  /-- The commands waiting, first in first out. -/
  pending : List Instr
  deriving DecidableEq, Repr

/-- Why a command stops the model. Both reasons name operands that are no command of the spec. -/
inductive Fault where
  /-- Raised by the request rows, CACHE_REPLAY and UNKNOWN_KIND when the payload is longer than the
  300 bytes a frame carries (R139). Safe: no such frame can reach the inbound buffer. Log 12. -/
  | overlongPayload
  /-- Raised by UNKNOWN_KIND when its KIND is one of the twenty-two request kinds (R162). Safe: such
  a frame is the request's own row. Log 12. -/
  | requestKind
  deriving DecidableEq, Repr

/-- Why the model gives a command no meaning. -/
inductive Refusal where
  /-- Raised by an arm of `exec` whose row is not modelled yet. Safe: the model stops. No arm
  answers it. -/
  | notModelled (mnemonic : String)
  deriving DecidableEq, Repr

/-- The source records at cold reset: all disabled in ON_DELIVERY, but E15, which is enabled in
ON_ACK (R136). -/
def resetSources : Vector Source 16 :=
  (Vector.replicate 16 (Source.resting false .onDelivery)).set 15 (Source.resting true .onAck)

/-- A lane at cold reset: IDLE, pointer at select 0, no access (R95). -/
def Lane.atReset : Lane := { state := .idle, pointer := 0, access := none }

/-- The session hold time after cold reset and link reset: 50, that is 500 ms (R103). -/
def defaultHoldTime : Nat := 50

/-- The part held in cold reset (R174). DESIGN CHOICE (logs 4, 5, 6): link state, strap values and
`freeCount` while the reset is held, and the pin levels at its start. -/
def State.reset : State :=
  { inReset := true
    rdy := Vector.replicate 8 true
    lk := Vector.replicate 4 true
    alertn := true
    rateCode := 0
    cfgsrc := false
    link := .closed
    session := 0
    receiver := Receiver.newHunt
    inbound := []
    replies := []
    cache := none
    snapshot := none
    credits := 0
    holdTime := defaultHoldTime
    lastServed := .notice
    outSeq := 0
    sending := none
    windows := Vector.replicate 16 Window.freed
    profiles := Vector.replicate 8 none
    slots := Vector.replicate 32 Slot.freed
    queues := Vector.replicate 8 []
    delivery := []
    discards := []
    lanes := Vector.replicate 4 Lane.atReset
    sources := resetSources
    filters := Vector.replicate 8 .high
    notices := []
    loadOutcome := .notAttempted
    failureCode := 0
    loadPhase := none
    loadBuffer := []
    bootRead := none
    freeCount := 0
    lkAtGrant := none
    pending := [] }

end Sys2Proof.Machine
end

