-- ==== Sys2Proof/WellFormed.lean ====
section
/-! DEFINITION. Which terms of `Instr` are commands of the spec: a request is a frame, whose payload
is at most 300 bytes (R139), and UNKNOWN_KIND carries a KIND outside the twenty-two request kinds
(R162, R173). Every other operand is in range by its type. -/

namespace Sys2Proof

/-- The twenty-two request KIND codes of Table 8-2 (R162). -/
def requestKinds : List Byte :=
  [0x01, 0x02, 0x03, 0x04, 0x08, 0x09, 0x0A, 0x0B, 0x0C, 0x10, 0x11, 0x14, 0x15, 0x16, 0x17,
   0x18, 0x19, 0x1A, 0x1C, 0x1D, 0x1E, 0x1F]

/-- The longest payload of a frame: LEN is at most 302 (R139). -/
def maxPayload : Nat := 300

/-- A payload that a frame can carry (R139). -/
def payloadFits (payload : List Byte) : Bool := payload.length ≤ maxPayload

/-- The command is one the spec knows. -/
def Instr.wellFormed : Instr → Bool
  | .coldReset => true
  | .coldResetEnd _ _ _ => true
  | .receiveByte _ _ => true
  | .gapTimeout => true
  | .lineLow => true
  | .hrxRise => true
  | .lineBreak => true
  | .cacheReplay _ _ payload => payloadFits payload
  | .unknownKind _ kind payload => payloadFits payload && !requestKinds.contains kind
  | .identify _ payload => payloadFits payload
  | .openSession _ payload => payloadFits payload
  | .closeSession _ payload => payloadFits payload
  | .credit _ payload => payloadFits payload
  | .winSet _ payload => payloadFits payload
  | .winOpen _ payload => payloadFits payload
  | .winClose _ payload => payloadFits payload
  | .winFree _ payload => payloadFits payload
  | .winQuery _ payload => payloadFits payload
  | .profSet _ payload => payloadFits payload
  | .profQuery _ payload => payloadFits payload
  | .submit _ payload _ => payloadFits payload
  | .collect _ payload => payloadFits payload
  | .abort _ payload _ => payloadFits payload
  | .slotQuery _ payload => payloadFits payload
  | .laneQuery _ payload _ => payloadFits payload
  | .laneResume _ payload _ _ => payloadFits payload
  | .laneReset _ payload _ => payloadFits payload
  | .evtSet _ payload => payloadFits payload
  | .evtAck _ payload => payloadFits payload
  | .evtQuery _ payload => payloadFits payload
  | .cfgImage _ payload => payloadFits payload
  | .frameSent _ => true
  | .accessEnd _ _ _ => true
  | .laneFault _ _ => true
  | .retryExpiry _ _ => true
  | .holdExpiry _ => true
  | .attnFall _ => true
  | .attnRise _ => true
  | .filterExpiry _ => true
  | .startBit => true

end Sys2Proof
end

