-- ==== Sys2Proof/Machine/Operands.lean ====
section
/-! DEFINITION. The byte forms of the spec: byte order, field codings, frames, request kinds, status
codes, profile and window records. -/

namespace Sys2Proof.Machine

/-! ## Bytes -/

/-- Byte `k` of a payload or record, zero past its end. -/
def byteAt (bytes : List Byte) (k : Nat) : Byte := bytes.getD k 0

/-- The low byte of a number. -/
def byteOf (n : Nat) : Byte := BitVec.ofNat 8 n

/-- Two bytes, least significant first (00_scope 5). -/
def le16 (n : Nat) : List Byte := [byteOf n, byteOf (n / 256)]

/-- Four bytes, least significant first (00_scope 5). -/
def le32 (a : BitVec 32) : List Byte :=
  [a.extractLsb' 0 8, a.extractLsb' 8 8, a.extractLsb' 16 8, a.extractLsb' 24 8]

/-- The two-byte number at offset `k`, least significant byte first. -/
def u16At (bytes : List Byte) (k : Nat) : Nat :=
  (byteAt bytes k).toNat + 256 * (byteAt bytes (k + 1)).toNat

/-- The four-byte field at offset `k`, least significant byte first (R2). -/
def u32At (bytes : List Byte) (k : Nat) : BitVec 32 :=
  byteAt bytes (k + 3) ++ byteAt bytes (k + 2) ++ byteAt bytes (k + 1) ++ byteAt bytes k

/-- `count` address bytes, most significant first (R34). -/
def addressBytes (count : Nat) (address : Nat) : List Byte :=
  (List.range count).map fun j => byteOf (address / 256 ^ (count - 1 - j))

/-- A flag or a yes/no field: 0 or 1 (08, R119). -/
def boolByte (b : Bool) : Byte := if b then 1 else 0

/-- The sum of bytes modulo 256 (R139). -/
def sum8 (bytes : List Byte) : Byte := bytes.foldl (· + ·) 0

/-- The sum of bytes modulo 65 536, the trailer of an image (R178). -/
def sum16 (bytes : List Byte) : Nat := (bytes.foldl (fun acc b => acc + b.toNat) 0) % 65536

/-- An index byte as an index below `n`. -/
def indexOf? (n : Nat) (b : Byte) : Option (Fin n) :=
  if h : b.toNat < n then some ⟨b.toNat, h⟩ else none

/-! ## Frames -/

/-- SYNC (R139). -/
def syncByte : Byte := 0xA9

/-- The LEN field's value: SEQ, KIND and the payload (R139). -/
def Frame.len (f : Frame) : Nat := f.payload.length + 2

/-- The bytes from the first LEN byte to the last payload byte, the ones CHECK completes (R139). -/
def Frame.summed (f : Frame) : List Byte := le16 f.len ++ f.seq :: f.kind :: f.payload

/-- The frame on the link: SYNC, LEN, SEQ, KIND, payload, CHECK (R139, R161). -/
def Frame.wire (f : Frame) : List Byte := syncByte :: (f.summed ++ [-(sum8 f.summed)])

/-- One character on HRX or HTX: start bit low, eight data bits least significant first, stop bit
high (R138). -/
def characterBits (b : Byte) : List Bool :=
  false :: ((List.range 8).map fun k => b.getLsbD k) ++ [true]

/-- The link rate of a rate code, in bit/s (R138). -/
def linkRate (code : BitVec 2) : Nat :=
  match code.toNat with
  | 0 => 115200
  | 1 => 460800
  | 2 => 1000000
  | _ => 3000000

/-! ## Request kinds and status codes -/

/-- The twenty-two request kinds (Table 8-2, R162). -/
inductive Request where
  | identify | openSession | closeSession | credit
  | winSet | winOpen | winClose | winFree | winQuery
  | profSet | profQuery
  | submit | collect | abort | slotQuery
  | laneQuery | laneResume | laneReset
  | evtSet | evtAck | evtQuery
  | cfgImage
  deriving DecidableEq, Repr

/-- The KIND code of a request (Table 8-2). -/
def Request.code : Request → Byte
  | .identify => 0x01
  | .openSession => 0x02
  | .closeSession => 0x03
  | .credit => 0x04
  | .winSet => 0x08
  | .winOpen => 0x09
  | .winClose => 0x0A
  | .winFree => 0x0B
  | .winQuery => 0x0C
  | .profSet => 0x10
  | .profQuery => 0x11
  | .submit => 0x14
  | .collect => 0x15
  | .abort => 0x16
  | .slotQuery => 0x17
  | .laneQuery => 0x18
  | .laneResume => 0x19
  | .laneReset => 0x1A
  | .evtSet => 0x1C
  | .evtAck => 0x1D
  | .evtQuery => 0x1E
  | .cfgImage => 0x1F

/-- All request kinds, in the order of Table 8-2. -/
def allRequests : List Request :=
  [.identify, .openSession, .closeSession, .credit, .winSet, .winOpen, .winClose, .winFree,
   .winQuery, .profSet, .profQuery, .submit, .collect, .abort, .slotQuery, .laneQuery,
   .laneResume, .laneReset, .evtSet, .evtAck, .evtQuery, .cfgImage]

/-- The request a KIND names; none for an unknown kind (R149 step 1, R173). -/
def requestOf (kind : Byte) : Option Request := allRequests.find? fun r => r.code == kind

/-- The payload length of a request kind (Table 8-9); SUBMIT's is judged by the TXM (R51). -/
def Request.payloadLength : Request → Option Nat
  | .identify => some 0
  | .openSession => some 1
  | .closeSession => some 0
  | .credit => some 1
  | .winSet => some 15
  | .winOpen => some 1
  | .winClose => some 1
  | .winFree => some 1
  | .winQuery => some 1
  | .profSet => some 15
  | .profQuery => some 1
  | .submit => none
  | .collect => some 1
  | .abort => some 1
  | .slotQuery => some 1
  | .laneQuery => some 1
  | .laneResume => some 1
  | .laneReset => some 1
  | .evtSet => some 3
  | .evtAck => some 1
  | .evtQuery => some 0
  | .cfgImage => some 4

/-- The reply status codes (Table 8-11, R170). -/
inductive Status where
  | ok | busy | wrongState | badArg | notOpen | loading | tagInUse | unknownTag | discarded
  | tooLate | pending | noWindow | range | access | queueFull | overlap | noProfile
  | unknownKind | badLength
  deriving DecidableEq, Repr

/-- The byte of a reply status (Table 8-11). -/
def Status.code : Status → Byte
  | .ok => 0
  | .busy => 1
  | .wrongState => 2
  | .badArg => 3
  | .notOpen => 4
  | .loading => 5
  | .tagInUse => 6
  | .unknownTag => 7
  | .discarded => 8
  | .tooLate => 9
  | .pending => 10
  | .noWindow => 11
  | .range => 12
  | .access => 13
  | .queueFull => 14
  | .overlap => 15
  | .noProfile => 16
  | .unknownKind => 17
  | .badLength => 18

/-- A reply before it is framed: its status and the fields after it (R150). -/
structure Reply where
  status : Status
  fields : List Byte
  deriving DecidableEq, Repr

/-- The reply OK with the status alone. -/
def Reply.ok : Reply := { status := .ok, fields := [] }

/-- The reply OK with fields after the status. -/
def Reply.okWith (fields : List Byte) : Reply := { status := .ok, fields := fields }

/-- A reply with a status other than OK carries the status byte alone (R150). -/
def Reply.refusal (status : Status) : Reply := { status := status, fields := [] }

/-- The payload of a reply: the status byte, then the fields (R150). -/
def Reply.payload (r : Reply) : List Byte := r.status.code :: r.fields

/-! ## One-byte codings -/

/-- Window state (R2). -/
def WindowState.code : WindowState → Byte
  | .free => 0
  | .closed => 1
  | .opened => 2
  | .draining => 3

/-- Rights byte: READ 1, WRITE 2, COMMAND 4 (R2). -/
def Rights.code (r : Rights) : Byte :=
  boolByte r.read + 2 * boolByte r.write + 4 * boolByte r.command

/-- The rights set of a rights byte (R2). -/
def rightsOf (b : Byte) : Rights :=
  { read := b.getLsbD 0, write := b.getLsbD 1, command := b.getLsbD 2 }

/-- Slot state (R48). -/
def SlotState.code : SlotState → Byte
  | .free => 0
  | .queued => 1
  | .active => 2
  | .paused => 3
  | .done => 4
  | .orphaned => 5

/-- Transaction kind (R48). -/
def TxKind.code : TxKind → Byte
  | .read => 0
  | .write => 1
  | .command => 2

/-- Phase (R48). -/
def Phase.code : Phase → Byte
  | .precheck => 0
  | .data => 1
  | .postcheck => 2

/-- Completion status (R48, R171). -/
def CompStatus.code : CompStatus → Byte
  | .success => 0
  | .aborted => 1
  | .timeout => 2
  | .laneFault => 3
  | .flushed => 4

/-- Lane state (R76). -/
def LaneState.code : LaneState → Byte
  | .idle => 0
  | .busy => 1
  | .faulted => 2
  | .resetting => 3

/-- Clear mode (R119). -/
def ClearMode.code : ClearMode → Byte
  | .onDelivery => 0
  | .onAck => 1

/-- Source state (R119). -/
def SourceState.code : SourceState → Byte
  | .idle => 0
  | .queued => 1
  | .reported => 2

/-- Load outcome (R159). -/
def LoadOutcome.code : LoadOutcome → Byte
  | .notAttempted => 0
  | .loaded => 1
  | .failed => 2

/-- Ready method (R25). -/
def ReadyMethod.code : ReadyMethod → Byte
  | .none => 0
  | .statusPoll => 1
  | .readyLine => 2

/-- The ready method of a byte in 0–2 (R25). -/
def readyMethodOf (b : Byte) : ReadyMethod :=
  if b = 0 then .none else if b = 1 then .statusPoll else .readyLine

/-! ## Profile records -/

/-- The fourteen bytes of a profile, in the order of R24 (R25). -/
def Profile.bytes (p : Profile) : List Byte :=
  [byteOf p.addressBytes, p.readOpcode, byteOf p.readDummy, p.writeOpcode, p.writePreamble,
   byteOf p.dataLines, p.divider, byteOf p.pageCode, p.readyMethod.code, p.statusOpcode,
   p.busyMask, byteOf p.retryInterval, byteOf p.retryLimit, byteOf p.attnFilter]

/-- Whether the byte at record offset `k` of a profile record is in its range; offset 0 is the target
index and 1–14 are the fields (R24, R26, R182). -/
def profileByteOk (k : Nat) (b : Byte) : Bool :=
  match k with
  | 0 => b.toNat < 8
  | 1 => b.toNat = 2 || b.toNat = 3 || b.toNat = 4
  | 3 => b.toNat ≤ 8
  | 6 => b.toNat = 1 || b.toNat = 2 || b.toNat = 4
  | 8 => b.toNat ≤ 8
  | 9 => b.toNat ≤ 2
  | 12 => 1 ≤ b.toNat
  | 14 => b.toNat ≤ 3
  | _ => true

/-- The record offset of the first byte of a 15-byte profile record that is out of range (R182). -/
def profileBadAt (rec : List Byte) : Option Nat :=
  (List.range 15).find? fun k => !profileByteOk k (byteAt rec k)

/-- The profile of a 15-byte record: target index, then the fourteen fields (R25). -/
def profileOf (rec : List Byte) : Profile :=
  { addressBytes := (byteAt rec 1).toNat
    readOpcode := byteAt rec 2
    readDummy := (byteAt rec 3).toNat
    writeOpcode := byteAt rec 4
    writePreamble := byteAt rec 5
    dataLines := (byteAt rec 6).toNat
    divider := byteAt rec 7
    pageCode := (byteAt rec 8).toNat
    readyMethod := readyMethodOf (byteAt rec 9)
    statusOpcode := byteAt rec 10
    busyMask := byteAt rec 11
    retryInterval := (byteAt rec 12).toNat
    retryLimit := (byteAt rec 13).toNat
    attnFilter := (byteAt rec 14).toNat }

/-- The fields of a SET record lie in the ranges of R24. -/
def Profile.inRange (p : Profile) : Bool :=
  (p.addressBytes = 2 || p.addressBytes = 3 || p.addressBytes = 4) && p.readDummy ≤ 8 &&
    (p.dataLines = 1 || p.dataLines = 2 || p.dataLines = 4) && p.pageCode ≤ 8 &&
    1 ≤ p.retryInterval && p.retryInterval ≤ 255 && p.retryLimit ≤ 255 && p.attnFilter ≤ 3

/-! ## Window records -/

/-- A multiple of 1024 (R1). -/
def aligned1024 (a : Addr) : Bool := a.toNat % 1024 = 0

/-- limit + 1 is a multiple of 1024 and limit is at least base (R1). -/
def limitOk (base limit : Addr) : Bool :=
  (limit.toNat + 1) % 1024 = 0 && base.toNat ≤ limit.toNat

/-- A legal rights byte (R2). -/
def rightsByteOk (b : Byte) : Bool := 1 ≤ b.toNat && b.toNat ≤ 7

/-- The six values a WIN_SET or an image record gives a window, in their ranges (R11 check 3). -/
def windowFieldsOk (target rights : Byte) (base limit offset : Addr) : Bool :=
  aligned1024 base && limitOk base limit && aligned1024 offset && target.toNat < 8 &&
    rightsByteOk rights

/-- X and Y share a bridge address: neither base lies above the other's limit (R8). -/
def rangesMeet (baseX limitX baseY limitY : Addr) : Bool :=
  !(limitY.toNat < baseX.toNat) && !(limitX.toNat < baseY.toNat)

/-- offset + (limit − base) < 2^(8a), without truncation (R9). -/
def fits (addressBytes : Nat) (base limit offset : Addr) : Bool :=
  offset.toNat + (limit.toNat - base.toNat) < 2 ^ (8 * addressBytes)

/-- The record a WIN_QUERY shows for one window (R15, R168). -/
def Window.record (i : WinIx) (w : Window) : List Byte :=
  [byteOf i.val, w.state.code, byteOf w.target.val, w.rights.code] ++ le32 w.base ++
    le32 w.limit ++ le32 w.offset ++ [byteOf w.outstanding]

/-- The 16-byte image record of a window, with its load-state (Table 9-3, R21). -/
def Window.imageRecord (i : WinIx) (w : Window) : List Byte :=
  [byteOf i.val, boolByte (w.state == .opened), w.rights.code, byteOf w.target.val] ++
    le32 w.base ++ le32 w.limit ++ le32 w.offset

/-! ## Slots -/

/-- The five items of a COMPLETION payload and of a COLLECT reply after its status (R99, R165). -/
def Slot.completion (tag : Tag) (sl : Slot) : List Byte :=
  [byteOf tag.val, (sl.status.getD .success).code, sl.kind.code] ++ le16 sl.progress ++ sl.result

/-- The fields of a SLOT_QUERY reply for one tag (R68, R168). -/
def Slot.record (tag : Tag) (sl : Slot) : List Byte :=
  [byteOf tag.val, sl.state.code, sl.kind.code, sl.phase.code] ++ le16 sl.progress ++
    [byteOf sl.retryCount]

/-- A slot in QUEUED, PAUSED, ACTIVE or ORPHANED (00_scope 4). -/
def Slot.live (sl : Slot) : Bool :=
  sl.state == .queued || sl.state == .paused || sl.state == .active || sl.state == .orphaned

/-! ## Events -/

/-- The nine bytes of a source in EVT_QUERY (R135). -/
def Source.record (src : Source) : List Byte :=
  [boolByte src.enabled, src.mode.code, src.state.code, byteOf src.count, byteOf src.reported] ++
    le32 src.detail

/-- The payload of a NOTICE frame (R125, R166). -/
def Source.noticePayload (e : SrcIx) (src : Source) : List Byte :=
  [byteOf e.val, byteOf src.count] ++ le32 src.detail

/-! ## Places of targets on lanes -/

/-- Target Tn sits on lane n/2 (00_scope 5). -/
def laneOf (t : Target) : LaneIx := ⟨t.val / 2, by omega⟩

/-- Target Tn sits at select n mod 2 (00_scope 5). -/
def selectOf (t : Target) : Fin 2 := ⟨t.val % 2, by omega⟩

/-- The target at a select of a lane. -/
def targetAt (l : LaneIx) (sel : Fin 2) : Target := ⟨2 * l.val + sel.val, by omega⟩

/-- The attention source E(n) of target Tn (R118). -/
def attnSource (t : Target) : SrcIx := ⟨t.val, by omega⟩

/-- The fault source E(10 + n) of lane Ln (R118). -/
def faultSource (l : LaneIx) : SrcIx := ⟨10 + l.val, by omega⟩

/-- E8 WINDOW_DRAINED (R118). -/
def drainSource : SrcIx := 8

/-- E9 DISCARD (R118). -/
def discardSource : SrcIx := 9

/-- E14 LINK_ERROR (R118). -/
def linkErrorSource : SrcIx := 14

/-- E15 CONFIG (R118). -/
def configSource : SrcIx := 15

end Sys2Proof.Machine
end

