-- ==== Sys2Proof/Machine/Flags.lean ====
section
/-! DEFINITION. The Event Unit's records (occurrences, disable, acknowledgement, the choice of a
notice), the error bits, and the ALERTn condition. -/

namespace Sys2Proof.Machine

/-! ## The error bits of E14 (R120, R146) -/

def checkBit : BitVec 32 := 0x01
def lengthBit : BitVec 32 := 0x02
def overrunBit : BitVec 32 := 0x04
def gapBit : BitVec 32 := 0x08
def huntBit : BitVec 32 := 0x10

/-- The bit of window i or tag t in a mask: 2^i (R18, R107). -/
def maskBit (k : Nat) : BitVec 32 := BitVec.ofNat 32 (2 ^ k)

/-! ## Occurrences -/

/-- How the held detail changes at an occurrence: none for E0–E7, a mask for E8, E9 and E14, the
latest value for E10–E13 and E15 (R120). -/
def detailAfter (e : SrcIx) (held value : BitVec 32) : BitVec 32 :=
  if e.val < 8 then 0
  else if e = drainSource ∨ e = discardSource ∨ e = linkErrorSource then held ||| value
  else value

/-- A source after an occurrence (R122). -/
def Source.occurred (e : SrcIx) (value : BitVec 32) (src : Source) : Source :=
  if !src.enabled then src
  else match src.state with
    | .idle =>
      { src with state := .queued, count := 1, detail := detailAfter e 0 value }
    | .queued | .reported =>
      { src with count := min (src.count + 1) 255, detail := detailAfter e src.detail value }

/-- An occurrence joins the notice queue exactly at an enabled IDLE source (R122, R124). -/
def Source.joins (src : Source) : Bool := src.enabled && src.state == .idle

/-- An occurrence of source `e` with a detail value (R122). -/
def occur (e : SrcIx) (value : BitVec 32) (s : State) : State :=
  { s with
    sources := s.sources.set e.val (s.sources[e.val].occurred e value)
    notices := if s.sources[e.val].joins then s.notices ++ [e] else s.notices }

/-- A link error is one occurrence of E14 with the error's bit (R146). -/
def linkError (bit : BitVec 32) (s : State) : State := occur linkErrorSource bit s

/-! ## Disable, enable, acknowledge, choice -/

/-- The full effect of a disable (R133): disabled, IDLE, counts and detail 0, out of the notice queue,
with the given clear mode. -/
def disableSource (e : SrcIx) (mode : ClearMode) (s : State) : State :=
  { s with
    sources := s.sources.set e.val (Source.resting false mode)
    notices := s.notices.filter (· != e) }

/-- The disable R28 makes, which keeps the clear mode held (R133). -/
def disableKeepingMode (e : SrcIx) (s : State) : State :=
  disableSource e s.sources[e.val].mode s

/-- An enable that passes its checks (R132). -/
def enableSource (e : SrcIx) (mode : ClearMode) (s : State) : State :=
  { s with sources := s.sources.set e.val (Source.resting true mode) }

/-- A REPORTED source after EVT_ACK (R130): re-queued with the surplus, or at rest. -/
def Source.acknowledged (src : Source) : Source :=
  if src.reported < src.count then
    { src with state := .queued, count := src.count - src.reported, reported := 0 }
  else { src with state := .idle, count := 0, reported := 0, detail := 0 }

/-- EVT_ACK taken at a REPORTED source (R130). -/
def acknowledge (e : SrcIx) (s : State) : State :=
  { s with
    sources := s.sources.set e.val s.sources[e.val].acknowledged
    notices := if s.sources[e.val].reported < s.sources[e.val].count then s.notices ++ [e]
      else s.notices }

/-- A source after the choice of its notice, by its clear mode (R126, R127). -/
def Source.delivered (src : Source) : Source :=
  match src.mode with
  | .onDelivery => { src with state := .idle, count := 0, detail := 0 }
  | .onAck => { src with state := .reported, reported := src.count }

/-! ## ALERTn -/

/-- A DONE slot whose pull-only flag is clear is pushable (R98). -/
def pushable (s : State) (tag : Tag) : Bool := !s.slots[tag.val].pullOnly

/-- The pushable completion offered: the oldest pushable entry of the delivery queue (R98). -/
def offered (s : State) : Option Tag := s.delivery.find? (pushable s)

/-- An unsolicited frame waits (R115). -/
def unsolicitedWaits (s : State) : Bool := (offered s).isSome || !s.notices.isEmpty

/-- ALERTn is asserted while an unsolicited frame waits and none can be sent (R115). -/
def alertCondition (s : State) : Bool :=
  unsolicitedWaits s && (s.credits == 0 || s.link != .opened)

/-- ALERTn driven from its condition: low while it holds (R115). -/
def driveAlert (s : State) : State := { s with alertn := !alertCondition s }

end Sys2Proof.Machine
end

