-- ==== Sys2Proof/Machine/Ops.lean ====
section
/-! DEFINITION. Shared operations over the tables: window counts and drains, a slot's way into DONE and
out of it, the profile a target runs under, and the link reset of every block. -/

namespace Sys2Proof.Machine

/-! ## Table writes -/

def setSlot (tag : Tag) (sl : Slot) (s : State) : State :=
  { s with slots := s.slots.set tag.val sl }

def setWindow (i : WinIx) (w : Window) (s : State) : State :=
  { s with windows := s.windows.set i.val w }

def setLane (l : LaneIx) (r : Lane) (s : State) : State :=
  { s with lanes := s.lanes.set l.val r }

/-! ## Outstanding counts (R16, R18) -/

/-- The count's fall completes the window's drain (R18). -/
def Window.drains (w : Window) : Bool := w.state == .draining && w.outstanding == 1

/-- A window whose count falls by 1; a completed drain makes it CLOSED, keeping its fields (R18). -/
def Window.lowered (w : Window) : Window :=
  { w with
    outstanding := w.outstanding - 1
    state := if w.drains then .closed else w.state }

/-- A live slot of the window leaves (R16): the count falls, and a completed drain gives E8 an
occurrence with the window's bit (R18). -/
def lowerCount (i : WinIx) (s : State) : State :=
  if s.windows[i.val].drains then
    occur drainSource (maskBit i.val) (setWindow i s.windows[i.val].lowered s)
  else setWindow i s.windows[i.val].lowered s

/-! ## Slots into DONE and FREE -/

/-- A slot as it stands on entry to DONE (R64): status recorded, flags clear, retry timer stopped,
hold timer started at the session hold time unless that is 0. -/
def Slot.finished (sl : Slot) (status : CompStatus) (holdTime : Nat) : Slot :=
  { sl with
    state := .done
    status := some status
    abortRequested := false
    flushRequested := false
    retryTimer := none
    holdTimer := if holdTime = 0 then none else some holdTime }

/-- A slot enters DONE with a completion status (R64). -/
def enterDone (tag : Tag) (status : CompStatus) (s : State) : State :=
  lowerCount s.slots[tag.val].window
    { s with
      slots := s.slots.set tag.val (s.slots[tag.val].finished status s.holdTime)
      queues := s.queues.set s.slots[tag.val].target.val
        (s.queues[s.slots[tag.val].target.val].filter (· != tag))
      delivery := s.delivery ++ [tag] }

/-- A DONE slot becomes FREE and leaves the delivery queue: push, COLLECT or hold expiry
(R99, R101, R104). -/
def freeDone (tag : Tag) (s : State) : State :=
  { s with
    slots := s.slots.set tag.val Slot.freed
    delivery := s.delivery.filter (· != tag) }

/-- An ORPHANED slot's access has ended: FREE, and its window's count falls (R71). -/
def freeOrphan (tag : Tag) (s : State) : State :=
  lowerCount s.slots[tag.val].window (setSlot tag Slot.freed s)

/-- A discarded tag joins the discard list, the oldest of 8 making room (R106). -/
def listDiscard (tag : Tag) (s : State) : State :=
  { s with discards := (if 8 ≤ s.discards.length then s.discards.drop 1 else s.discards) ++ [tag] }

/-! ## Profiles and pins -/

/-- The ready method that governs a target's pin; NONE while the profile is UNSET (R43). -/
def readyMethodAt (t : Target) (s : State) : ReadyMethod :=
  match s.profiles[t.val] with
  | none => .none
  | some p => p.readyMethod

/-- The attention filter time code of a target; 0 while the profile is UNSET (R43). -/
def filterTimeAt (t : Target) (s : State) : Nat :=
  match s.profiles[t.val] with
  | none => 0
  | some p => p.attnFilter

/-- The page size code of a target's profile. -/
def pageCodeAt (t : Target) (s : State) : Nat :=
  match s.profiles[t.val] with
  | none => 0
  | some p => p.pageCode

/-- A fresh start of an attention filter from the pin's level (R45). -/
def freshFilter (level : Bool) : FilterState := if level then .high else .low

/-- The filter of a target once the Profile Store has taken a profile (R28, R45). DESIGN CHOICE, log
10: the filter of a pin that turns into a ready input is stopped and follows the pin's level. -/
def filterTaken (t : Target) (p : Profile) (s : State) : FilterState :=
  if p.readyMethod = .readyLine ∨ readyMethodAt t s = .readyLine ∨ filterTimeAt t s ≠ p.attnFilter
  then freshFilter s.rdy[t.val]
  else s.filters[t.val]

/-- The Profile Store takes a profile: the record, the pin's filter, and the disable of E(n) for a
READY_LINE target (R26, R28). -/
def takeProfile (t : Target) (p : Profile) (s : State) : State :=
  if p.readyMethod = .readyLine then
    disableKeepingMode (attnSource t)
      { s with
        profiles := s.profiles.set t.val (some p)
        filters := s.filters.set t.val (filterTaken t p s) }
  else
    { s with
      profiles := s.profiles.set t.val (some p)
      filters := s.filters.set t.val (filterTaken t p s) }

/-- Some OPEN or DRAINING window names the target (R20). -/
def windowHolds (t : Target) (s : State) : Bool :=
  s.windows.toList.any fun w => (w.state == .opened || w.state == .draining) && w.target == t

/-- Some live slot targets it (R69). -/
def slotHolds (t : Target) (s : State) : Bool :=
  s.slots.toList.any fun sl => sl.live && sl.target == t

/-- The target's profile is locked (R27). -/
def locked (t : Target) (s : State) : Bool := windowHolds t s || slotHolds t s

/-! ## Link reset (R157) -/

/-- One slot at a link reset (R70). -/
def linkResetSlot (s : State) (tag : Tag) : State :=
  match s.slots[tag.val].state with
  | .queued | .paused => lowerCount s.slots[tag.val].window (setSlot tag Slot.freed s)
  | .active => setSlot tag { s.slots[tag.val] with state := .orphaned } s
  | .done => setSlot tag Slot.freed s
  | .orphaned | .free => s

/-- All tags in order. -/
def allTags : List Tag := List.finRange 32

/-- The TXM's part of a link reset (R70). -/
def linkResetSlots (s : State) : State := allTags.foldl linkResetSlot s

/-- The link reset of every block (R157); the inbound buffer is the causing event's matter. -/
def linkReset (s : State) : State :=
  { linkResetSlots s with
    queues := Vector.replicate 8 []
    delivery := []
    discards := []
    link := .closed
    replies := []
    cache := none
    snapshot := none
    credits := 0
    holdTime := defaultHoldTime
    lastServed := .notice }

end Sys2Proof.Machine
end

