-- ==== Sys2Proof/Machine/Bus.lean ====
section
/-! DEFINITION. The shape of a bus access: its select periods phase by phase, the pieces of a write,
the lane lines clock by clock, and the lane outputs. -/

namespace Sys2Proof.Machine

/-- The boot profile (R30); the fields R30 does not list play no part in a boot read. -/
def bootProfile : Profile :=
  { addressBytes := 3, readOpcode := 0x03, readDummy := 0, writeOpcode := 0, writePreamble := 0,
    dataLines := 1, divider := 23, pageCode := 0, readyMethod := .none, statusOpcode := 0,
    busyMask := 0, retryInterval := 0, retryLimit := 0, attnFilter := 0 }

/-! ## Pieces of a write (R40) -/

/-- The page size of a page size code in 1–8 (R24). -/
def pageSize (code : Nat) : Nat := 2 ^ (code + 3)

/-- The number of pieces of a WRITE of `length` bytes at a target address (R40). -/
def pieceCount (code address length : Nat) : Nat :=
  if code = 0 then 1
  else (address + length - 1) / pageSize code - address / pageSize code + 1

/-- The target address of the next byte not yet written (R40). -/
def Slot.pieceAddress (sl : Slot) : Nat := sl.address + sl.progress

/-- The length of the piece the next data access carries: up to the page's end or the data's end,
whichever comes first (R40). -/
def Slot.pieceLength (code : Nat) (sl : Slot) : Nat :=
  if code = 0 then sl.length - sl.progress
  else min (sl.length - sl.progress) (pageSize code - sl.pieceAddress % pageSize code)

/-- The data bytes of that piece, in order (R37). -/
def Slot.pieceBytes (code : Nat) (sl : Slot) : List Byte :=
  (sl.writeData.drop sl.progress).take (sl.pieceLength code)

/-! ## Select periods (R33) -/

/-- The preamble select period, when the write preamble opcode is not 0 (R33, R37). -/
def preamblePeriods (p : Profile) : List (List BusPhase) :=
  if p.writePreamble = 0 then [] else [[.drive 1 [p.writePreamble]]]

/-- READ (R36). -/
def readPeriods (p : Profile) (address count : Nat) : List (List BusPhase) :=
  [[.drive 1 (p.readOpcode :: addressBytes p.addressBytes address), .dummy p.dataLines p.readDummy,
    .sample p.dataLines count]]

/-- One WRITE piece (R37). -/
def piecePeriods (p : Profile) (sl : Slot) : List (List BusPhase) :=
  preamblePeriods p ++
    [[.drive 1 (p.writeOpcode :: addressBytes p.addressBytes sl.pieceAddress),
      .drive p.dataLines (sl.pieceBytes p.pageCode)]]

/-- COMMAND (R38). -/
def commandPeriods (p : Profile) (sl : Slot) : List (List BusPhase) :=
  (if sl.preamble then preamblePeriods p else []) ++
    [[.drive 1 (sl.opcode ::
        if sl.usesAddress then addressBytes p.addressBytes sl.address else []),
      .drive p.dataLines sl.writePart, .sample p.dataLines sl.readPartLength]]

/-- Status poll (R39). -/
def pollPeriods (p : Profile) : List (List BusPhase) :=
  [[.drive 1 [p.statusOpcode], .sample 1 1]]

/-- The data access of a slot (R58, R59, R60). -/
def dataAccess (sel : Fin 2) (tag : Tag) (p : Profile) (sl : Slot) : Access :=
  match sl.kind with
  | .read =>
    { tag := some tag, accessType := .read, select := sel, divider := p.divider,
      periods := readPeriods p sl.address sl.length }
  | .write =>
    { tag := some tag, accessType := .writePiece, select := sel, divider := p.divider,
      periods := piecePeriods p sl }
  | .command =>
    { tag := some tag, accessType := .command, select := sel, divider := p.divider,
      periods := commandPeriods p sl }

/-- A status poll of a slot (R39). -/
def pollAccess (sel : Fin 2) (tag : Tag) (p : Profile) : Access :=
  { tag := some tag, accessType := .statusPoll, select := sel, divider := p.divider,
    periods := pollPeriods p }

/-- A boot read of T0 (R30, R83). -/
def bootAccess (r : BootRead) : Access :=
  { tag := none, accessType := .bootRead, select := 0, divider := bootProfile.divider,
    periods := readPeriods bootProfile r.address r.count }

/-! ## Bytes in, clock periods -/

/-- The bytes a phase samples. -/
def BusPhase.bytesIn : BusPhase → Nat
  | .drive _ _ => 0
  | .dummy _ _ => 0
  | .sample _ count => count

/-- The bytes an access samples. -/
def Access.bytesIn (a : Access) : Nat := ((a.periods.flatten).map BusPhase.bytesIn).sum

/-- The lane clock periods of a phase: eight per byte on one line, four on two, two on four; eight
per dummy byte (R32). -/
def BusPhase.clocks : BusPhase → Nat
  | .drive lines bytes => bytes.length * (8 / lines)
  | .dummy _ count => count * 8
  | .sample lines count => count * (8 / lines)

/-- The lane clock periods of an access, without the select gaps of R31. -/
def Access.clocks (a : Access) : Nat := ((a.periods.flatten).map BusPhase.clocks).sum

/-- Cycles of the 48 MHz clock that an access lasts: a lane clock period is 2 × (divider + 1) of them
(R32). -/
def Access.ticks (a : Access) : Nat := a.clocks * (2 * (a.divider.toNat + 1))

/-! ## The data lines, clock period by clock period (R34, R35) -/

/-- What the lane engine does with LDn.0–3 in one lane clock period: a driven level, or released.
DESIGN CHOICE, log 19: LDn.2 and LDn.3 while a phase is carried on one line or on two, of which R34 and
R35 say nothing, are released, as R31 has all four lines between accesses. -/
structure LdDrive where
  ld0 : Option Bool
  ld1 : Option Bool
  ld2 : Option Bool
  ld3 : Option Bool
  deriving DecidableEq, Repr

/-- All four data lines released. -/
def LdDrive.released : LdDrive := { ld0 := none, ld1 := none, ld2 := none, ld3 := none }

/-- LDn.0 held high while one-line data comes in, and through the dummy bytes of a one-line read
(R34, R35). DESIGN CHOICE, log 19: so too while the status byte of a poll comes in (R39), and the
other three lines released. -/
def LdDrive.ld0High : LdDrive := { LdDrive.released with ld0 := some true }

/-- A byte driven out, most significant bit first; the more significant bit of a group on the higher
line (R34, R35). The lines that the phase does not use are released (DESIGN CHOICE, log 19: R34 says
nothing of LDn.2 and LDn.3 while a phase is carried on one line, nor R35 while it is on two). -/
def driveByte (lines : Nat) (b : Byte) : List LdDrive :=
  if lines = 4 then
    [7, 3].map fun k =>
      { ld0 := some (b.getLsbD (k - 3)), ld1 := some (b.getLsbD (k - 2)),
        ld2 := some (b.getLsbD (k - 1)), ld3 := some (b.getLsbD k) }
  else if lines = 2 then
    [7, 5, 3, 1].map fun k =>
      { LdDrive.released with ld0 := some (b.getLsbD (k - 1)), ld1 := some (b.getLsbD k) }
  else
    [7, 6, 5, 4, 3, 2, 1, 0].map fun k => { LdDrive.released with ld0 := some (b.getLsbD k) }

/-- The lines while the part does not drive data (R34, R35; on one line, LDn.1 to LDn.3 by log 19). -/
def quietDrive (dataLines : Nat) : LdDrive :=
  if dataLines = 1 then LdDrive.ld0High else LdDrive.released

/-- The drive of a phase in each of its lane clock periods (R34, R35). -/
def BusPhase.drives : BusPhase → List LdDrive
  | .drive lines bytes => bytes.flatMap (driveByte lines)
  | .dummy dataLines count => List.replicate (count * 8) (quietDrive dataLines)
  | .sample lines count => List.replicate (count * (8 / lines)) (quietDrive lines)

/-- The bits read in one lane clock period from the levels of LDn.0–3, most significant first
(R34, R35). -/
def sampledBits (lines : Nat) (ld : Vector Bool 4) : List Bool :=
  if lines = 4 then [ld[3], ld[2], ld[1], ld[0]]
  else if lines = 2 then [ld[1], ld[0]]
  else [ld[1]]

/-- A byte read from the levels at its rising clock edges, most significant bit first (R35). -/
def sampledByte (lines : Nat) (levels : List (Vector Bool 4)) : Byte :=
  byteOf ((levels.flatMap (sampledBits lines)).foldl (fun acc b => 2 * acc + b.toNat) 0)

/-! ## Lane outputs (R31, R77) -/

/-- The levels of a lane's output pins at one moment: LCLKn, LSELn.0, LSELn.1 and LDn.0–3; `true` is
high, and `none` is not driven by the lane engine. -/
structure LaneLevels where
  lclk : Option Bool
  lsel0 : Option Bool
  lsel1 : Option Bool
  ld : LdDrive
  deriving DecidableEq, Repr

/-- LCLKn low, both selects high, the data lines released (R31). -/
def LaneLevels.idle : LaneLevels :=
  { lclk := some false, lsel0 := some true, lsel1 := some true, ld := LdDrive.released }

/-- None of the lane outputs driven (R77). -/
def LaneLevels.released : LaneLevels :=
  { lclk := none, lsel0 := none, lsel1 := none, ld := LdDrive.released }

/-- One select low and the other high, with the clock and the data lines (R31). -/
def LaneLevels.selecting (sel : Fin 2) (clock : Bool) (ld : LdDrive) : LaneLevels :=
  { lclk := some clock, lsel0 := some (sel != 0), lsel1 := some (sel != 1), ld := ld }

/-- One lane clock period inside a select period: the data lines take their levels while LCLKn is low,
after its falling edge, and hold them while it is high, after the rising edge that samples (R31). -/
def clockPeriod (sel : Fin 2) (ld : LdDrive) : List LaneLevels :=
  [LaneLevels.selecting sel false ld, LaneLevels.selecting sel true ld]

/-- One select period, half lane clock period by half: the select low from half a period before the
first rising edge to half a period after the last falling edge (R31). DESIGN CHOICE, log 17: these
times are the least that R31 allows, and the data lines are released in the last half. -/
def selectPeriod (sel : Fin 2) (phases : List BusPhase) : List LaneLevels :=
  (phases.flatMap BusPhase.drives).flatMap (clockPeriod sel) ++
    [LaneLevels.selecting sel false LdDrive.released]

/-- Both selects high for one lane clock period before a select period (R31). DESIGN CHOICE, log 17:
the least time that R31 allows, at idle levels. -/
def selectGap : List LaneLevels := [LaneLevels.idle, LaneLevels.idle]

/-- The levels of an access from its grant to its end, half lane clock period by half, each of
divider + 1 cycles of the 48 MHz clock (R31, R32, R33). -/
def Access.levels (a : Access) : List LaneLevels :=
  a.periods.flatMap fun phases => selectGap ++ selectPeriod a.select phases

/-- What a lane engine does with its output pins. -/
inductive LaneOutputs where
  /-- One set of levels, held. -/
  | steady (levels : LaneLevels)
  /-- The levels of an access, half lane clock period by half (R31). -/
  | running (halves : List LaneLevels)
  deriving DecidableEq, Repr

/-- The outputs of a lane, by its state (R77). -/
def Lane.outputs (l : Lane) : LaneOutputs :=
  match l.state, l.access with
  | .faulted, _ => .steady LaneLevels.released
  | .busy, some a => .running a.levels
  | .resetting, some a => .running a.levels
  | _, _ => .steady LaneLevels.idle

end Sys2Proof.Machine
end

