-- ==== Sys2Proof/Machine/Image.lean ====
section
/-! DEFINITION. The Configuration Loader: the image, its validation, its application, the end of a
load, the snapshot of the tables, and CFG_IMAGE. -/

namespace Sys2Proof.Machine

/-! ## The image (R178) -/

/-- The image size for P profile and W window records. -/
def imageSize (profileCount windowCount : Nat) : Nat := 7 + 15 * profileCount + 16 * windowCount

/-- The profile count of a header. -/
def profileCountOf (img : List Byte) : Nat := (byteAt img 3).toNat

/-- The window count of a header. -/
def windowCountOf (img : List Byte) : Nat := (byteAt img 4).toNat

/-- The size a header announces. -/
def announcedSize (img : List Byte) : Nat := imageSize (profileCountOf img) (windowCountOf img)

/-- `count` bytes of the image from an offset. -/
def slice (img : List Byte) (offset count : Nat) : List Byte := (img.drop offset).take count

/-- A record with the image offset it starts at. -/
structure ImageRecord where
  offset : Nat
  bytes : List Byte
  deriving DecidableEq, Repr

/-- The profile records, in image order: record k starts at 5 + 15k (R181). -/
def profileRecords (img : List Byte) : List ImageRecord :=
  (List.range (profileCountOf img)).map fun k =>
    { offset := 5 + 15 * k, bytes := slice img (5 + 15 * k) 15 }

/-- The window records, in image order: record k starts at 5 + 15P + 16k (R181). -/
def windowRecords (img : List Byte) : List ImageRecord :=
  (List.range (windowCountOf img)).map fun k =>
    { offset := 5 + 15 * profileCountOf img + 16 * k,
      bytes := slice img (5 + 15 * profileCountOf img + 16 * k) 16 }

/-- Fields of a window record (Table 9-3). -/
def recBase (r : List Byte) : Addr := u32At r 4
def recLimit (r : List Byte) : Addr := u32At r 8
def recOffset (r : List Byte) : Addr := u32At r 12
def recOpens (r : List Byte) : Bool := byteAt r 1 == 1

/-! ## Validation (R180–R182) -/

/-- Where an image fails: the failure code and the byte offset reported. -/
structure LoadFailure where
  code : Nat
  offset : Nat
  deriving DecidableEq, Repr

/-- The header checks, in order (R180). -/
def headerFailure (h : List Byte) : Option LoadFailure :=
  if byteAt h 0 ≠ 0x4F then some { code := 1, offset := 0 }
  else if byteAt h 1 ≠ 0x43 then some { code := 1, offset := 1 }
  else if byteAt h 2 ≠ 1 then some { code := 2, offset := 2 }
  else if 8 < profileCountOf h then some { code := 3, offset := 3 }
  else if 16 < windowCountOf h then some { code := 3, offset := 4 }
  else none

/-- CHECKSUM: the trailer equals the 16-bit sum of the bytes before it (R181). -/
def checksumFailure (img : List Byte) : Option LoadFailure :=
  if u16At img (announcedSize img - 2) = sum16 (img.take (announcedSize img - 2)) then none
  else some { code := 4, offset := announcedSize img - 2 }

/-- The record offset of the first field of a window record out of range (R182). -/
def windowBadAt (r : List Byte) : Option Nat :=
  if 16 ≤ (byteAt r 0).toNat then some 0
  else if 1 < (byteAt r 1).toNat then some 1
  else if !rightsByteOk (byteAt r 2) then some 2
  else if 8 ≤ (byteAt r 3).toNat then some 3
  else if !aligned1024 (recBase r) then some 4
  else if !limitOk (recBase r) (recLimit r) then some 8
  else if !aligned1024 (recOffset r) then some 12
  else none

/-- The offset of the first byte of the first field out of range, in image order (R181). -/
def recordBadAt (img : List Byte) : Option Nat :=
  ((profileRecords img).findSome? fun r => (profileBadAt r.bytes).map (r.offset + ·)).or
    ((windowRecords img).findSome? fun r => (windowBadAt r.bytes).map (r.offset + ·))

/-- The offset of the first record that repeats an index byte seen before. -/
def firstRepeat : List Byte → List ImageRecord → Option Nat
  | _, [] => none
  | seen, r :: rest =>
    if seen.contains (byteAt r.bytes 0) then some r.offset
    else firstRepeat (byteAt r.bytes 0 :: seen) rest

/-- DUPLICATE: the index byte of the first record that repeats an index of its kind (R181). -/
def duplicateAt (img : List Byte) : Option Nat :=
  (firstRepeat [] (profileRecords img)).or (firstRepeat [] (windowRecords img))

/-- The profile record of a target in the image. -/
def profileRecordFor (img : List Byte) (target : Byte) : Option ImageRecord :=
  (profileRecords img).find? fun r => byteAt r.bytes 0 == target

/-- REFERENCE: the target byte of the first window record whose target has no profile record
(R181). -/
def referenceAt (img : List Byte) : Option Nat :=
  ((windowRecords img).find? fun r => (profileRecordFor img (byteAt r.bytes 3)).isNone).map
    fun r => r.offset + 3

/-- The offset of the first record that overlaps an earlier one, by the test of R8. -/
def firstOverlap : List ImageRecord → List ImageRecord → Option Nat
  | _, [] => none
  | earlier, r :: rest =>
    if earlier.any fun e =>
        rangesMeet (recBase r.bytes) (recLimit r.bytes) (recBase e.bytes) (recLimit e.bytes)
    then some r.offset
    else firstOverlap (r :: earlier) rest

/-- OVERLAP: the index byte of the first window record with load-state 1 that overlaps an earlier
one with load-state 1 (R181). -/
def overlapAt (img : List Byte) : Option Nat :=
  firstOverlap [] ((windowRecords img).filter fun r => recOpens r.bytes)

/-- A window record fits the address bytes of its target's profile record, by the test of R9. -/
def recordFits (img : List Byte) (r : List Byte) : Bool :=
  match profileRecordFor img (byteAt r 3) with
  | none => false
  | some p => fits (byteAt p.bytes 1).toNat (recBase r) (recLimit r) (recOffset r)

/-- FIT: the index byte of the first window record with load-state 1 that does not fit (R181). -/
def fitAt (img : List Byte) : Option Nat :=
  ((windowRecords img).find? fun r => recOpens r.bytes && !recordFits img r.bytes).map (·.offset)

/-- The validation of the whole image: codes 4 to 9 in order, the first failure found (R181). -/
def imageFailure (img : List Byte) : Option LoadFailure :=
  (((((checksumFailure img).or
    ((recordBadAt img).map fun o => { code := 5, offset := o })).or
    ((duplicateAt img).map fun o => { code := 6, offset := o })).or
    ((referenceAt img).map fun o => { code := 7, offset := o })).or
    ((overlapAt img).map fun o => { code := 8, offset := o })).or
    ((fitAt img).map fun o => { code := 9, offset := o })

/-! ## The end of a load -/

/-- The detail of the E15 occurrence: failure code + 256 × byte offset (R184). -/
def failureDetail (f : LoadFailure) : BitVec 32 := BitVec.ofNat 32 (f.code + 256 * f.offset)

/-- The load ends FAILED: the outcome, the E15 occurrence, the buffer, the link and the cache
(R184). -/
def loadFail (f : LoadFailure) (s : State) : State :=
  { occur configSource (failureDetail f) s with
    loadOutcome := .failed
    failureCode := f.code
    loadPhase := none
    loadBuffer := []
    bootRead := none
    link := .closed
    cache := none }

/-- A profile record is taken as a PROF_SET without the lock, its filter started afresh
(R46, R185). -/
def applyProfile (s : State) (r : ImageRecord) : State :=
  match indexOf? 8 (byteAt r.bytes 0) with
  | none => s
  | some t =>
    let s' := takeProfile t (profileOf r.bytes) s
    { s' with filters := s'.filters.set t.val (freshFilter s'.rdy[t.val]) }

/-- The window a record defines: CLOSED with outstanding count 0 (R185). -/
def windowOfRecord (target : Target) (r : List Byte) : Window :=
  { state := .closed, base := recBase r, limit := recLimit r, offset := recOffset r,
    target := target, rights := rightsOf (byteAt r 2), outstanding := 0 }

/-- A window record defines its window (R185 step 2). -/
def applyWindow (s : State) (r : ImageRecord) : State :=
  match indexOf? 16 (byteAt r.bytes 0), indexOf? 8 (byteAt r.bytes 3) with
  | some i, some t => setWindow i (windowOfRecord t r.bytes) s
  | _, _ => s

/-- A window whose record has load-state 1 becomes OPEN with outstanding count 0 (R185 step 3). -/
def applyOpening (s : State) (r : ImageRecord) : State :=
  match indexOf? 16 (byteAt r.bytes 0) with
  | some i =>
    if recOpens r.bytes then
      setWindow i { s.windows[i.val] with state := .opened, outstanding := 0 } s
    else s
  | none => s

/-- The image applied in one event: profiles, windows, opening, end (R185). -/
def applyImage (img : List Byte) (s : State) : State :=
  { (windowRecords img).foldl applyOpening
      ((windowRecords img).foldl applyWindow ((profileRecords img).foldl applyProfile s)) with
    loadOutcome := .loaded
    failureCode := 0
    loadPhase := none
    loadBuffer := []
    bootRead := none
    link := .closed
    cache := none }

/-- The longest boot read (R179). -/
def bootReadLimit : Nat := 256

/-- The next body read, from the bytes held on (R179). -/
def nextBodyRead (img : List Byte) : BootRead :=
  { address := img.length, count := min bootReadLimit (announcedSize img - img.length) }

/-- The CFL takes the bytes of a boot read that ended uncut (R179): header checks, the next body
read, or validation and application. -/
def bootReadEnds (bytes : List Byte) (s : State) : State :=
  match s.loadPhase with
  | none => { s with bootRead := none }
  | some .header =>
    match headerFailure bytes with
    | some f => loadFail f s
    | none =>
      { s with loadPhase := some .body, loadBuffer := bytes, bootRead := some (nextBodyRead bytes) }
  | some .body =>
    let img := s.loadBuffer ++ bytes
    if img.length < announcedSize img then
      { s with loadBuffer := img, bootRead := some (nextBodyRead img) }
    else match imageFailure img with
      | some f => loadFail f s
      | none => applyImage img s

/-- A lane fault on L0 ends the load with code 10, at the first byte the read was to fetch
(R183). -/
def bootReadFaults (s : State) : State :=
  loadFail { code := 10, offset := (s.bootRead.map BootRead.address).getD 0 } s

/-- The load begins with the header read: 5 bytes at target address 0 (R179). -/
def startLoad (s : State) : State :=
  { s with
    link := .loading
    loadPhase := some .header
    loadBuffer := []
    bootRead := some { address := 0, count := 5 } }

/-! ## The snapshot (R187) and CFG_IMAGE (R188) -/

/-- One record for each SET profile, in target order (R187). -/
def snapshotProfiles (s : State) : List (List Byte) :=
  (List.finRange 8).filterMap fun t : Target =>
    (s.profiles[t.val]).map fun p => byteOf t.val :: p.bytes

/-- One record for each window not FREE, in window order (R187, R21). -/
def snapshotWindows (s : State) : List (List Byte) :=
  (List.finRange 16).filterMap fun i : WinIx =>
    if s.windows[i.val].state = .free then none else some (s.windows[i.val].imageRecord i)

/-- Header and records of the snapshot (R187). -/
def snapshotBody (s : State) : List Byte :=
  [0x4F, 0x43, 1, byteOf (snapshotProfiles s).length, byteOf (snapshotWindows s).length] ++
    (snapshotProfiles s).flatten ++ (snapshotWindows s).flatten

/-- The present tables in image form (R187). -/
def buildSnapshot (s : State) : List Byte := snapshotBody s ++ le16 (sum16 (snapshotBody s))

/-- The OK reply of CFG_IMAGE: the snapshot size and the bytes asked for (R188). -/
def imageReply (img : List Byte) (offset count : Nat) : Reply :=
  Reply.okWith (le16 img.length ++ slice img offset count)

/-- CFG_IMAGE at the CFL (R188). -/
def reqCfgImage (payload : List Byte) (s : State) : State × Reply :=
  let offset := u16At payload 0
  let count := u16At payload 2
  if count < 1 ∨ 256 < count then (s, Reply.refusal .badArg)
  else if offset = 0 then
    if (buildSnapshot s).length < count then (s, Reply.refusal .range)
    else ({ s with snapshot := some (buildSnapshot s) }, imageReply (buildSnapshot s) 0 count)
  else match s.snapshot with
    | none => (s, Reply.refusal .wrongState)
    | some img =>
      if img.length < offset + count then (s, Reply.refusal .range)
      else (s, imageReply img offset count)

end Sys2Proof.Machine
end

