-- ==== Sys2Proof/Machine/Grant.lean ====
section
/-! DEFINITION. The lane engines: grants, ready checks, the end of an access cut or uncut, and what the
TXM does with each report. -/

namespace Sys2Proof.Machine

/-! ## Ready checks and starts -/

/-- A busy verdict (R56): past the retry limit the slot ends TIMEOUT, otherwise it is PAUSED and its
retry timer starts. -/
def busyVerdict (tag : Tag) (p : Profile) (s : State) : State :=
  if p.retryLimit < s.slots[tag.val].retryCount + 1 then
    enterDone tag .timeout
      (setSlot tag
        { s.slots[tag.val] with retryCount := min (s.slots[tag.val].retryCount + 1) 255 } s)
  else
    setSlot tag
      { s.slots[tag.val] with
        state := .paused
        retryCount := s.slots[tag.val].retryCount + 1
        retryTimer := some p.retryInterval } s

/-- The lane BUSY with an access (R81). -/
def laneBusy (l : LaneIx) (a : Access) (s : State) : State :=
  setLane l { s.lanes[l.val] with state := .busy, access := some a } s

/-- A status poll starts: the slot is ACTIVE in its phase (R55). -/
def startPoll (l : LaneIx) (sel : Fin 2) (tag : Tag) (p : Profile) (s : State) : State :=
  laneBusy l (pollAccess sel tag p)
    (setSlot tag { s.slots[tag.val] with state := .active } s)

/-- The data access starts: the slot is ACTIVE in DATA (R55). -/
def startData (l : LaneIx) (sel : Fin 2) (tag : Tag) (p : Profile) (s : State) : State :=
  laneBusy l (dataAccess sel tag p s.slots[tag.val])
    (setSlot tag { s.slots[tag.val] with state := .active, phase := .data } s)

/-- What a grant that is given does to the head's slot and the lane (R55, R81). -/
def actOnGrant (l : LaneIx) (sel : Fin 2) (tag : Tag) (p : Profile) (s : State) : State :=
  match s.slots[tag.val].phase, p.readyMethod with
  | .precheck, .none => startData l sel tag p s
  | .precheck, .statusPoll => startPoll l sel tag p s
  | .precheck, .readyLine =>
    if s.rdy[(targetAt l sel).val] then startData l sel tag p s else busyVerdict tag p s
  | .data, _ => startData l sel tag p s
  | .postcheck, .none => enterDone tag .success s
  | .postcheck, .statusPoll => startPoll l sel tag p s
  | .postcheck, .readyLine =>
    if s.rdy[(targetAt l sel).val] then enterDone tag .success s else busyVerdict tag p s

/-! ## Arbitration (R78–R80, R83) -/

/-- What stands at a select of a lane for the next grant. -/
inductive Offer where
  /-- A boot read of T0 (R83). -/
  | boot (r : BootRead)
  /-- The QUEUED head of a target queue (R74). -/
  | head (tag : Tag)
  deriving DecidableEq, Repr

/-- The head of a target queue is eligible when its slot is QUEUED (R74). -/
def eligibleHead (t : Target) (s : State) : Option Tag :=
  match s.queues[t.val] with
  | [] => none
  | tag :: _ => if s.slots[tag.val].state = .queued then some tag else none

/-- The offer at a select; a waiting boot read is an eligible head at select 0 of L0 (R83). -/
def offerAt (l : LaneIx) (sel : Fin 2) (s : State) : Option Offer :=
  match (if l = 0 ∧ sel = 0 then s.bootRead else none) with
  | some r => some (.boot r)
  | none => (eligibleHead (targetAt l sel) s).map .head

/-- The choice between the two selects: the one eligible, or the one the pointer names (R79). -/
def pickOffer (l : LaneIx) (s : State) : Option (Fin 2 × Offer) :=
  match offerAt l 0 s, offerAt l 1 s with
  | none, none => none
  | some a, none => some (0, a)
  | none, some b => some (1, b)
  | some a, some b => if s.lanes[l.val].pointer = 0 then some (0, a) else some (1, b)

/-- The select that was not granted (R79). -/
def otherSelect (sel : Fin 2) : Fin 2 := if sel = 0 then 1 else 0

/-- The detail of a lane fault that cut no slot's access (R86). -/
def noTagDetail : BitVec 32 := 255

/-- LKn asserted at a grant: no grant, the lane FAULTED, an occurrence with detail 255; a boot read
ends the load (R80, R83). -/
def faultAtGrant (l : LaneIx) (o : Offer) (s : State) : State :=
  let s' := occur (faultSource l) noTagDetail
    (setLane l { s.lanes[l.val] with state := .faulted } s)
  match o with
  | .boot _ => bootReadFaults s'
  | .head _ => s'

/-- A grant that is given: the pointer takes the other select (R79), and the head or the boot read is
acted on (R81, R83). -/
def giveGrant (l : LaneIx) (sel : Fin 2) (o : Offer) (s : State) : State :=
  let s' := setLane l { s.lanes[l.val] with pointer := otherSelect sel } s
  match o with
  | .boot r => laneBusy l (bootAccess r) s'
  | .head tag =>
    match s'.profiles[(targetAt l sel).val] with
    | none => s'
    | some p => actOnGrant l sel tag p s'

/-- Arbitration of one lane: while it is IDLE and an offer stands, sample LKn and grant; a grant
without an access leaves the lane IDLE and it arbitrates again (R78). The first argument bounds the
number of grants. -/
def arbitrateFor : Nat → LaneIx → State → State
  | 0, _, s => s
  | n + 1, l, s =>
    if s.lanes[l.val].state = .idle then
      match pickOffer l s with
      | none => s
      | some (sel, o) =>
        if s.lk[l.val] then arbitrateFor n l (giveGrant l sel o s) else faultAtGrant l o s
    else s

/-- Each grant without an access takes one of the 32 slots out of QUEUED, so 33 grants are more than
one arbitration can give (log 11). -/
def grantBound : Nat := 33

/-- A lane arbitrates (R78). -/
def arbitrate (l : LaneIx) (s : State) : State := arbitrateFor grantBound l s

/-! ## The bytes sampled on a lane -/

/-- The bytes an access samples: those the target drove, then free values for the bytes it did not
drive (R35, log 6). -/
def sampledBytes (count : Nat) (data : List Byte) (freeCount : Nat) : List Byte :=
  data.take count ++
    (List.range (count - data.length)).map fun k => Config.undrivenByte (freeCount + k)

/-- The free-value counter once those bytes have been used. -/
def advanceFree (count : Nat) (data : List Byte) (s : State) : State :=
  { s with freeCount := s.freeCount + (count - data.length) }

/-! ## Reports taken by the TXM (R63) -/

/-- What a data access that ended uncut adds to a slot's progress and result data, by its kind
(R58, R59, R60). -/
def Slot.counted (bytes : List Byte) (pageCode : Nat) (sl : Slot) : Slot :=
  match sl.kind with
  | .read => { sl with progress := sl.length, result := bytes }
  | .write => { sl with progress := sl.progress + sl.pieceLength pageCode }
  | .command => { sl with progress := 1, result := bytes }

/-- The target is busy when the status byte AND the mask is not zero (R39). -/
def pollBusy (p : Profile) (bytes : List Byte) : Bool := byteAt bytes 0 &&& p.busyMask != 0

/-- The end of the data of a WRITE or COMMAND: POSTCHECK, or DONE SUCCESS under NONE
(R59 step 3, R60). -/
def closeData (tag : Tag) (p : Profile) (sl : Slot) (s : State) : State :=
  match p.readyMethod with
  | .none => enterDone tag .success (setSlot tag { sl with phase := .postcheck } s)
  | .statusPoll | .readyLine =>
    setSlot tag { sl with phase := .postcheck, state := .queued } s

/-- The uncut end of a data access with neither request flag set, by the slot's kind
(R58, R59, R60). -/
def dataEnds (tag : Tag) (bytes : List Byte) (p : Profile) (s : State) : State :=
  let counted := s.slots[tag.val].counted bytes p.pageCode
  match counted.kind with
  | .read => enterDone tag .success (setSlot tag counted s)
  | .write =>
    if counted.nextPiece < counted.piecesTotal then
      setSlot tag
        { counted with nextPiece := counted.nextPiece + 1, phase := .precheck, state := .queued } s
    else closeData tag p counted s
  | .command => closeData tag p counted s

/-- The uncut end of a status poll with neither request flag set (R55). -/
def pollEnds (tag : Tag) (bytes : List Byte) (p : Profile) (s : State) : State :=
  if pollBusy p bytes then busyVerdict tag p s
  else match s.slots[tag.val].phase with
    | .postcheck => enterDone tag .success s
    | .precheck | .data =>
      setSlot tag { s.slots[tag.val] with phase := .data, state := .queued } s

/-- The slot as an access that ended uncut under a request flag leaves it: a data access counts, a
poll's verdict is dropped (R63). DEDUCED, log 9: only progress and result data change. -/
def Slot.flaggedEnd (accessType : AccessType) (bytes : List Byte) (pageCode : Nat) (sl : Slot) :
    Slot :=
  match accessType with
  | .statusPoll | .bootRead => sl
  | .read | .writePiece | .command => sl.counted bytes pageCode

/-- An uncut end of an ACTIVE slot's access, by its request flags (R63). -/
def endActive (tag : Tag) (accessType : AccessType) (bytes : List Byte) (p : Profile)
    (s : State) : State :=
  let sl := s.slots[tag.val]
  if sl.abortRequested then
    enterDone tag .aborted (setSlot tag (sl.flaggedEnd accessType bytes p.pageCode) s)
  else if sl.flushRequested then
    enterDone tag .flushed (setSlot tag (sl.flaggedEnd accessType bytes p.pageCode) s)
  else match accessType with
    | .statusPoll => pollEnds tag bytes p s
    | .read | .writePiece | .command => dataEnds tag bytes p s
    | .bootRead => s

/-- The report of an uncut end of a slot's access (R63, R71). -/
def uncutReport (tag : Tag) (accessType : AccessType) (bytes : List Byte) (s : State) : State :=
  match s.slots[tag.val].state with
  | .active =>
    match s.profiles[s.slots[tag.val].target.val] with
    | some p => endActive tag accessType bytes p s
    | none => s
  | .orphaned => freeOrphan tag s
  | .free | .queued | .paused | .done => s

/-- The report of a cut access (R63, R71, R84). -/
def cutReport (tag : Tag) (s : State) : State :=
  match s.slots[tag.val].state with
  | .active => enterDone tag .laneFault s
  | .orphaned => freeOrphan tag s
  | .free | .queued | .paused | .done => s

/-! ## Ends of an access on a lane -/

/-- The lane once an access has ended with no fault held: IDLE, no access (R82, R91). -/
def laneIdle (l : LaneIx) (s : State) : State :=
  setLane l { s.lanes[l.val] with state := .idle, access := none } s

/-- The access on a lane ends uncut (R82, R83, R91): the report is taken, the lane becomes IDLE and
arbitrates. -/
def endAccess (l : LaneIx) (data : List Byte) (s : State) : State :=
  match s.lanes[l.val].access with
  | none => s
  | some a =>
    let bytes := sampledBytes a.bytesIn data s.freeCount
    let s' := advanceFree a.bytesIn data s
    match a.tag with
    | none => arbitrate l (laneIdle l (bootReadEnds bytes s'))
    | some tag => arbitrate l (laneIdle l (uncutReport tag a.accessType bytes s'))

/-- The detail of the fault that cuts an access: its tag, or 255 for a boot read (R86). -/
def cutDetail (a : Access) : BitVec 32 :=
  match a.tag with
  | none => noTagDetail
  | some tag => BitVec.ofNat 32 tag.val

/-- The lane state after a cut: a RESETTING lane completes its reset (R84, R91). -/
def stateAfterCut (state : LaneState) : LaneState :=
  if state = .resetting then .idle else .faulted

/-- LKn asserted during an access cuts it (R84): the lane, the report, the occurrence, in that order;
a boot read ends the load (R183); a completed lane reset arbitrates (R91). -/
def cutAccess (l : LaneIx) (s : State) : State :=
  match s.lanes[l.val].access with
  | none => s
  | some a =>
    let s' := setLane l
      { s.lanes[l.val] with state := stateAfterCut s.lanes[l.val].state, access := none } s
    match a.tag with
    | none => arbitrate l (bootReadFaults (occur (faultSource l) (cutDetail a) s'))
    | some tag => arbitrate l (occur (faultSource l) (cutDetail a) (cutReport tag s'))

end Sys2Proof.Machine
end

