-- ==== Sys2Proof/Machine/Windows.lean ====
section
/-! DEFINITION. The Window Table Unit: WIN_SET, WIN_OPEN, WIN_CLOSE, WIN_FREE, WIN_QUERY, and its checks
of a SUBMIT. Each request answers the state after it and its reply. -/

namespace Sys2Proof.Machine

/-! ## Requests (R11–R15) -/

/-- The window a WIN_SET payload defines: index, target, rights, base, limit, offset (R11). -/
def windowOfRequest (target : Target) (payload : List Byte) : Window :=
  { state := .closed, base := u32At payload 3, limit := u32At payload 7,
    offset := u32At payload 11, target := target, rights := rightsOf (byteAt payload 2),
    outstanding := 0 }

/-- WIN_SET (R11). -/
def reqWinSet (payload : List Byte) (s : State) : State × Reply :=
  match indexOf? 16 (byteAt payload 0) with
  | none => (s, Reply.refusal .badArg)
  | some i =>
    if s.windows[i.val].state = .opened ∨ s.windows[i.val].state = .draining then
      (s, Reply.refusal .busy)
    else if !windowFieldsOk (byteAt payload 1) (byteAt payload 2) (u32At payload 3)
        (u32At payload 7) (u32At payload 11) then
      (s, Reply.refusal .badArg)
    else match indexOf? 8 (byteAt payload 1) with
      | none => (s, Reply.refusal .badArg)
      | some t => (setWindow i (windowOfRequest t payload) s, Reply.ok)

/-- The window overlaps another one that is OPEN (R8). -/
def overlapsOpen (i : WinIx) (s : State) : Bool :=
  (List.finRange 16).any fun j : WinIx =>
    j != i && s.windows[j.val].state == .opened &&
      rangesMeet s.windows[i.val].base s.windows[i.val].limit s.windows[j.val].base
        s.windows[j.val].limit

/-- A window brought into use, its outstanding count 0 (R12). -/
def Window.openedNow (w : Window) : Window := { w with state := .opened, outstanding := 0 }

/-- WIN_OPEN (R12). -/
def reqWinOpen (payload : List Byte) (s : State) : State × Reply :=
  match indexOf? 16 (byteAt payload 0) with
  | none => (s, Reply.refusal .badArg)
  | some i =>
    let w := s.windows[i.val]
    match w.state with
    | .free | .opened => (s, Reply.refusal .wrongState)
    | .draining => (s, Reply.refusal .busy)
    | .closed =>
      match s.profiles[w.target.val] with
      | none => (s, Reply.refusal .noProfile)
      | some p =>
        if !fits p.addressBytes w.base w.limit w.offset then (s, Reply.refusal .range)
        else if overlapsOpen i s then (s, Reply.refusal .overlap)
        else (setWindow i w.openedNow s, Reply.ok)

/-- The state of a window taken out of use: CLOSED with no live slot, else DRAINING (R13). -/
def closeState (outstanding : Nat) : WindowState := if outstanding = 0 then .closed else .draining

/-- WIN_CLOSE (R13). -/
def reqWinClose (payload : List Byte) (s : State) : State × Reply :=
  match indexOf? 16 (byteAt payload 0) with
  | none => (s, Reply.refusal .badArg)
  | some i =>
    let w := s.windows[i.val]
    match w.state with
    | .free | .closed | .draining => (s, Reply.refusal .wrongState)
    | .opened =>
      (setWindow i { w with state := closeState w.outstanding } s,
        Reply.okWith [(closeState w.outstanding).code, byteOf w.outstanding])

/-- WIN_FREE (R14). -/
def reqWinFree (payload : List Byte) (s : State) : State × Reply :=
  match indexOf? 16 (byteAt payload 0) with
  | none => (s, Reply.refusal .badArg)
  | some i =>
    match s.windows[i.val].state with
    | .opened | .draining => (s, Reply.refusal .busy)
    | .free => (s, Reply.ok)
    | .closed => (setWindow i Window.freed s, Reply.ok)

/-- State and outstanding count of every window, W0 to W15 (R15). -/
def windowSummary (s : State) : List Byte :=
  s.windows.toList.flatMap fun w => [w.state.code, byteOf w.outstanding]

/-- WIN_QUERY (R15). -/
def reqWinQuery (payload : List Byte) (s : State) : State × Reply :=
  if byteAt payload 0 = 255 then (s, Reply.okWith (windowSummary s))
  else match indexOf? 16 (byteAt payload 0) with
    | none => (s, Reply.refusal .badArg)
    | some i => (s, Reply.okWith (s.windows[i.val].record i))

/-! ## Checks 5 to 7 of SUBMIT (R4–R6) -/

/-- The OPEN window that holds a bridge address (R3, R5 check 5). -/
def findWindow (address : Addr) (s : State) : Option WinIx :=
  (List.finRange 16).find? fun i : WinIx =>
    s.windows[i.val].state == .opened && s.windows[i.val].base.toNat ≤ address.toNat &&
      address.toNat ≤ s.windows[i.val].limit.toNat

/-- The translation offset + (A − base), without truncation (R4). -/
def Window.translate (w : Window) (address : Addr) : Nat :=
  w.offset.toNat + (address.toNat - w.base.toNat)

/-- The window's rights admit the kind (R6). -/
def Rights.allow (r : Rights) (kind : TxKind) (writePartLength : Nat) : Bool :=
  match kind with
  | .read => r.read
  | .write => r.write
  | .command => r.command && (writePartLength == 0 || r.write)

end Sys2Proof.Machine
end

