-- ==== Sys2Proof/Machine/Profiles.lean ====
section
/-! DEFINITION. The Profile Store's requests: PROF_SET and PROF_QUERY. -/

namespace Sys2Proof.Machine

/-- PROF_SET (R26): the index, the lock, the fields, in that order. -/
def reqProfSet (payload : List Byte) (s : State) : State × Reply :=
  match indexOf? 8 (byteAt payload 0) with
  | none => (s, Reply.refusal .badArg)
  | some t =>
    if locked t s then (s, Reply.refusal .busy)
    else if (profileBadAt payload).isSome then (s, Reply.refusal .badArg)
    else (takeProfile t (profileOf payload) s, Reply.ok)

/-- The fourteen field bytes of a target's profile, zeros in UNSET (R25). -/
def profileBytesAt (t : Target) (s : State) : List Byte :=
  match s.profiles[t.val] with
  | none => List.replicate 14 0
  | some p => p.bytes

/-- The pin function: 1 ready input, 0 attention input (R29, R43). -/
def pinFunction (t : Target) (s : State) : Byte := boolByte (readyMethodAt t s == .readyLine)

/-- The fields of a PROF_QUERY reply for one target (R29, R168). -/
def profileRecord (t : Target) (s : State) : List Byte :=
  [byteOf t.val, boolByte s.profiles[t.val].isSome] ++ profileBytesAt t s ++
    [pinFunction t s, boolByte s.rdy[t.val]]

/-- State and ready method of every target, T0 to T7 (R29). -/
def profileSummary (s : State) : List Byte :=
  (List.finRange 8).flatMap fun t : Target =>
    [boolByte s.profiles[t.val].isSome, (readyMethodAt t s).code]

/-- PROF_QUERY (R29). -/
def reqProfQuery (payload : List Byte) (s : State) : State × Reply :=
  if byteAt payload 0 = 255 then (s, Reply.okWith (profileSummary s))
  else match indexOf? 8 (byteAt payload 0) with
    | none => (s, Reply.refusal .badArg)
    | some t => (s, Reply.okWith (profileRecord t s))

end Sys2Proof.Machine
end

