-- ==== Sys2Proof/Machine/Slots.lean ====
section
/-! DEFINITION. The Transaction Manager's requests: SUBMIT, COLLECT, ABORT, SLOT_QUERY. -/

namespace Sys2Proof.Machine

/-! ## SUBMIT (R50–R54, R163, R164) -/

/-- A byte field that lies within the payload is at most `top`; one past its end is not judged at
check 2 (R164). -/
def fieldAtMost (payload : List Byte) (k top : Nat) : Bool :=
  payload.length ≤ k || (byteAt payload k).toNat ≤ top

/-- Check 2: tag, kind, pull-only flag, and for COMMAND the two flags (R51, R164). -/
def submitFieldsOk (payload : List Byte) : Bool :=
  fieldAtMost payload 0 31 && fieldAtMost payload 1 2 && fieldAtMost payload 2 1 &&
    (byteAt payload 1 != 2 || (fieldAtMost payload 8 1 && fieldAtMost payload 9 1))

/-- The kind of a kind byte in 0–2 (R48). -/
def kindOf (b : Byte) : TxKind := if b = 0 then .read else if b = 1 then .write else .command

/-- The kind a SUBMIT payload names. -/
def submitKind (payload : List Byte) : TxKind := kindOf (byteAt payload 1)

/-- The bridge address of a SUBMIT (Table 8-3). -/
def submitAddress (payload : List Byte) : Addr := u32At payload 3

/-- The length field of a READ or WRITE (Tables 8-4, 8-5). -/
def submitLength (payload : List Byte) : Nat := u16At payload 7

/-- The part lengths of a COMMAND (Table 8-6). -/
def submitWritePart (payload : List Byte) : Nat := (byteAt payload 10).toNat
def submitReadPart (payload : List Byte) : Nat := (byteAt payload 11).toNat

/-- Check 3: the lengths are in range and agree with the payload (R52, R164). -/
def submitLengthsOk (payload : List Byte) : Bool :=
  match submitKind payload with
  | .read =>
    payload.length == 9 && 1 ≤ submitLength payload && submitLength payload ≤ 256
  | .write =>
    9 ≤ payload.length && 1 ≤ submitLength payload && submitLength payload ≤ 256 &&
      payload.length == 9 + submitLength payload
  | .command =>
    12 ≤ payload.length && submitWritePart payload ≤ 16 && submitReadPart payload ≤ 16 &&
      payload.length == 12 + submitWritePart payload

/-- The last bridge address of the range: the length's for READ and WRITE, the one byte for COMMAND
(R5). -/
def submitLast (payload : List Byte) : Nat :=
  match submitKind payload with
  | .read | .write => (submitAddress payload).toNat + submitLength payload - 1
  | .command => (submitAddress payload).toNat

/-- The length of the write part that check 7 looks at; 0 for READ and WRITE (R6). -/
def submitWriteNeed (payload : List Byte) : Nat :=
  match submitKind payload with
  | .read | .write => 0
  | .command => submitWritePart payload

/-- The slot an accepted SUBMIT fills (R54): the head fields, QUEUED in PRECHECK with nothing done. -/
def submitSlot (payload : List Byte) (i : WinIx) (w : Window) (pageCode : Nat) : Slot :=
  let base : Slot :=
    { Slot.freed with
      state := .queued
      kind := submitKind payload
      pullOnly := byteAt payload 2 == 1
      window := i
      target := w.target
      address := w.translate (submitAddress payload)
      piecesTotal := 1
      nextPiece := 1 }
  match submitKind payload with
  | .read => { base with length := submitLength payload }
  | .write =>
    { base with
      length := submitLength payload
      writeData := payload.drop 9
      piecesTotal := pieceCount pageCode (w.translate (submitAddress payload))
        (submitLength payload) }
  | .command =>
    { base with
      opcode := byteAt payload 7
      usesAddress := byteAt payload 8 == 1
      preamble := byteAt payload 9 == 1
      writePart := payload.drop 12
      readPartLength := submitReadPart payload }

/-- The changes of an acceptance, before its lane arbitrates (R54, R7). -/
def acceptSubmit (payload : List Byte) (tag : Tag) (i : WinIx) (s : State) : State :=
  let w := s.windows[i.val]
  { s with
    discards := s.discards.filter (· != tag)
    slots := s.slots.set tag.val (submitSlot payload i w (pageCodeAt w.target s))
    queues := s.queues.set w.target.val (s.queues[w.target.val] ++ [tag])
    windows := s.windows.set i.val { w with outstanding := w.outstanding + 1 } }

/-- A target queue's capacity (R73). -/
def queueCapacity : Nat := 16

/-- Checks 4 to 8 of a SUBMIT whose fields and lengths are good, and its acceptance (R51). -/
def submitChecked (payload : List Byte) (tag : Tag) (s : State) : State × Reply :=
  if s.slots[tag.val].state ≠ .free then (s, Reply.refusal .tagInUse)
  else match findWindow (submitAddress payload) s with
    | none => (s, Reply.refusal .noWindow)
    | some i =>
      let w := s.windows[i.val]
      if w.limit.toNat < submitLast payload then (s, Reply.refusal .range)
      else if !w.rights.allow (submitKind payload) (submitWriteNeed payload) then
        (s, Reply.refusal .access)
      else if queueCapacity ≤ s.queues[w.target.val].length then (s, Reply.refusal .queueFull)
      else (arbitrate (laneOf w.target) (acceptSubmit payload tag i s), Reply.ok)

/-- SUBMIT (R51): the eight checks in order, the acceptance, and the arbitration of its lane. -/
def reqSubmit (payload : List Byte) (s : State) : State × Reply :=
  if s.link ≠ .opened then (s, Reply.refusal .notOpen)
  else if payload.length < 2 then (s, Reply.refusal .badLength)
  else if !submitFieldsOk payload then (s, Reply.refusal .badArg)
  else if !submitLengthsOk payload then (s, Reply.refusal .badLength)
  else match indexOf? 32 (byteAt payload 0) with
    | none => (s, Reply.refusal .badArg)
    | some tag => submitChecked payload tag s

/-! ## COLLECT, ABORT, SLOT_QUERY -/

/-- What a FREE tag is answered: DISCARDED on the discard list, UNKNOWN_TAG off it (R106). -/
def freeTagStatus (tag : Tag) (s : State) : Status :=
  if s.discards.contains tag then .discarded else .unknownTag

/-- COLLECT (R101). -/
def reqCollect (payload : List Byte) (s : State) : State × Reply :=
  match indexOf? 32 (byteAt payload 0) with
  | none => (s, Reply.refusal .badArg)
  | some tag =>
    match s.slots[tag.val].state with
    | .done => (freeDone tag s, Reply.okWith (s.slots[tag.val].completion tag))
    | .queued | .paused | .active => (s, Reply.refusal .pending)
    | .free => (s, Reply.refusal (freeTagStatus tag s))
    | .orphaned => (s, Reply.refusal .unknownTag)

/-- An ACTIVE slot asked to abort: the flag is set unless one is set already (R65). -/
def Slot.abortAsked (sl : Slot) : Slot :=
  if sl.flushRequested then sl else { sl with abortRequested := true }

/-- ABORT (R65); the lane may arbitrate once a head has left its queue (R78). -/
def reqAbort (payload : List Byte) (s : State) : State × Reply :=
  match indexOf? 32 (byteAt payload 0) with
  | none => (s, Reply.refusal .badArg)
  | some tag =>
    match s.slots[tag.val].state with
    | .queued | .paused =>
      (arbitrate (laneOf s.slots[tag.val].target) (enterDone tag .aborted s), Reply.ok)
    | .active => (setSlot tag s.slots[tag.val].abortAsked s, Reply.ok)
    | .done => (s, Reply.refusal .tooLate)
    | .free => (s, Reply.refusal (freeTagStatus tag s))
    | .orphaned => (s, Reply.refusal .unknownTag)

/-- SLOT_QUERY (R68). -/
def reqSlotQuery (payload : List Byte) (s : State) : State × Reply :=
  if byteAt payload 0 = 255 then
    (s, Reply.okWith (s.slots.toList.map fun sl => sl.state.code))
  else match indexOf? 32 (byteAt payload 0) with
    | none => (s, Reply.refusal .badArg)
    | some tag => (s, Reply.okWith (s.slots[tag.val].record tag))

end Sys2Proof.Machine
end

