-- ==== Sys2Proof/Machine/Lanes.lean ====
section
/-! DEFINITION. The lane engines' requests: LANE_QUERY, LANE_RESUME, LANE_RESET. -/

namespace Sys2Proof.Machine

/-- The access tag a LANE_QUERY shows; 255 when there is none (R93). -/
def accessTagByte (l : Lane) : Byte :=
  match l.access with
  | some a =>
    match a.tag with
    | some tag => byteOf tag.val
    | none => 255
  | none => 255

/-- The six items of a lane (R93). -/
def laneRecord (l : LaneIx) (s : State) : List Byte :=
  [byteOf l.val, s.lanes[l.val].state.code, boolByte s.lk[l.val],
   byteOf s.queues[(targetAt l 0).val].length, byteOf s.queues[(targetAt l 1).val].length,
   accessTagByte s.lanes[l.val]]

/-- LANE_QUERY (R93). -/
def reqLaneQuery (payload : List Byte) (s : State) : State × Reply :=
  if byteAt payload 0 = 255 then
    (s, Reply.okWith ((List.finRange 4).flatMap fun l : LaneIx => laneRecord l s))
  else match indexOf? 4 (byteAt payload 0) with
    | none => (s, Reply.refusal .badArg)
    | some l => (s, Reply.okWith (laneRecord l s))

/-- The LKn levels that the grant after a LANE_RESUME finds (R89, log 3). -/
def grantLevels (s : State) : State :=
  { s with lk := s.lkAtGrant.getD s.lk, lkAtGrant := none }

/-- LANE_RESUME (R89): the two checks, then IDLE and the arbitration, which may find LKn asserted
again. -/
def reqLaneResume (payload : List Byte) (s : State) : State × Reply :=
  match indexOf? 4 (byteAt payload 0) with
  | none => (s, Reply.refusal .badArg)
  | some l =>
    if s.lanes[l.val].state ≠ .faulted then (s, Reply.refusal .wrongState)
    else if !s.lk[l.val] then (s, Reply.refusal .busy)
    else
      (arbitrate l (setLane l { s.lanes[l.val] with state := .idle } (grantLevels s)), Reply.ok)

/-- An ACTIVE slot at a LANE_RESET: the flush flag is set unless a flag is set already (R67). -/
def Slot.flushAsked (sl : Slot) : Slot :=
  if sl.abortRequested then sl else { sl with flushRequested := true }

/-- One slot of the lane's queues at a LANE_RESET (R67). -/
def flushSlot (s : State) (tag : Tag) : State :=
  match s.slots[tag.val].state with
  | .queued | .paused => enterDone tag .flushed s
  | .active => setSlot tag s.slots[tag.val].flushAsked s
  | .done | .free | .orphaned => s

/-- The slots of one target flushed in queue order (R67, R90). -/
def flushTarget (t : Target) (s : State) : State := s.queues[t.val].foldl flushSlot s

/-- The slots of the lane's two targets flushed, select 0 first (R90). -/
def flushLane (l : LaneIx) (s : State) : State :=
  flushTarget (targetAt l 1) (flushTarget (targetAt l 0) s)

/-- The slots a LANE_RESET makes DONE FLUSHED at once: those QUEUED or PAUSED in the lane's queues
(R90). -/
def flushCount (l : LaneIx) (s : State) : Nat :=
  (s.queues[(targetAt l 0).val] ++ s.queues[(targetAt l 1).val]).countP fun tag =>
    s.slots[tag.val].state == .queued || s.slots[tag.val].state == .paused

/-- The lane state after a LANE_RESET (R90). -/
def resetState (state : LaneState) : LaneState :=
  match state with
  | .idle => .idle
  | .busy => .resetting
  | .faulted => .idle
  | .resetting => .resetting

/-- LANE_RESET (R90). -/
def reqLaneReset (payload : List Byte) (s : State) : State × Reply :=
  match indexOf? 4 (byteAt payload 0) with
  | none => (s, Reply.refusal .badArg)
  | some l =>
    let s' := flushLane l s
    (arbitrate l (setLane l { s'.lanes[l.val] with state := resetState s.lanes[l.val].state } s'),
      Reply.okWith [(resetState s.lanes[l.val].state).code, byteOf (flushCount l s)])

end Sys2Proof.Machine
end

