-- ==== Sys2Proof/Machine/Events.lean ====
section
/-! DEFINITION. The Event Unit's requests: EVT_SET, EVT_ACK, EVT_QUERY; and the attention filters. -/

namespace Sys2Proof.Machine

/-- The clear mode of a byte in 0–1 (R119). -/
def clearModeOf (b : Byte) : ClearMode := if b = 0 then .onDelivery else .onAck

/-- The source is the attention source of a READY_LINE target (R132 check 4). -/
def attnOfReadyLine (e : SrcIx) (s : State) : Bool :=
  if h : e.val < 8 then readyMethodAt ⟨e.val, h⟩ s == .readyLine else false

/-- EVT_SET (R132, R133). An enable leaves the attention filter as it is, so that a fall in FALLING goes
on to its expiry (DESIGN CHOICE, log 20). -/
def reqEvtSet (payload : List Byte) (s : State) : State × Reply :=
  match indexOf? 16 (byteAt payload 0) with
  | none => (s, Reply.refusal .badArg)
  | some e =>
    if 1 < (byteAt payload 1).toNat ∨ 1 < (byteAt payload 2).toNat then
      (s, Reply.refusal .badArg)
    else if byteAt payload 1 = 0 then
      (disableSource e (clearModeOf (byteAt payload 2)) s, Reply.ok)
    else if s.sources[e.val].state ≠ .idle then (s, Reply.refusal .busy)
    else if attnOfReadyLine e s then (s, Reply.refusal .wrongState)
    else (enableSource e (clearModeOf (byteAt payload 2)) s, Reply.ok)

/-- EVT_ACK (R130). -/
def reqEvtAck (payload : List Byte) (s : State) : State × Reply :=
  match indexOf? 16 (byteAt payload 0) with
  | none => (s, Reply.refusal .badArg)
  | some e =>
    match s.sources[e.val].state with
    | .idle | .queued => (s, Reply.refusal .wrongState)
    | .reported =>
      (acknowledge e s,
        Reply.okWith [s.sources[e.val].acknowledged.state.code,
          byteOf s.sources[e.val].acknowledged.count])

/-- The sixteen source records, then the notice queue's length and entries (R135). -/
def eventRecords (s : State) : List Byte :=
  s.sources.toList.flatMap Source.record ++
    byteOf s.notices.length :: s.notices.map fun e => byteOf e.val

/-- EVT_QUERY (R135). -/
def reqEvtQuery (_payload : List Byte) (s : State) : State × Reply :=
  (s, Reply.okWith (eventRecords s))

/-! ## Attention filters (R44) -/

def setFilter (t : Target) (f : FilterState) (s : State) : State :=
  { s with filters := s.filters.set t.val f }

/-- A fall of an attention input at its filter (R44). -/
def filterFall (t : Target) (s : State) : State :=
  match s.filters[t.val] with
  | .high =>
    if filterTimeAt t s = 0 then occur (attnSource t) 0 (setFilter t .low s)
    else setFilter t .falling s
  | .falling | .low => s

/-- A rise of an attention input at its filter (R44). -/
def filterRise (t : Target) (s : State) : State := setFilter t .high s

/-- The filter time expires: in FALLING one occurrence of E(n) and the state LOW; it runs in no other
state (R44). DESIGN CHOICE, log 20: a fall still in FALLING when E(n) is enabled gives its occurrence at
the expiry, by the table of R44, though R132 says that a pin already low at the enable gives one only
when it has risen and fallen again. -/
def filterExpires (t : Target) (s : State) : State :=
  match s.filters[t.val] with
  | .falling => occur (attnSource t) 0 (setFilter t .low s)
  | .high | .low => s

/-- The level of a RDY/ATTN pin. -/
def setPin (t : Target) (level : Bool) (s : State) : State :=
  { s with rdy := s.rdy.set t.val level }

end Sys2Proof.Machine
end

