-- ==== Sys2Proof/Machine/Delivery.lean ====
section
/-! DEFINITION. The transmitter and its arbiter, the choice of each class of frame, and CREDIT. -/

namespace Sys2Proof.Machine

/-- The KIND of a COMPLETION frame (Table 8-2). -/
def completionKind : Byte := 0x40

/-- The KIND of a NOTICE frame (Table 8-2). -/
def noticeKind : Byte := 0x41

/-- A reply chosen: it leaves the head of the reply queue and is sent (R113). -/
def chooseReply (f : Frame) (rest : List Frame) (s : State) : State :=
  { s with replies := rest, sending := some f.wire }

/-- The COMPLETION frame of a DONE slot, numbered from the outbound sequence counter (R99). -/
def completionFrame (tag : Tag) (s : State) : Frame :=
  { seq := s.outSeq, kind := completionKind, payload := s.slots[tag.val].completion tag }

/-- A push chosen (R99): the slot is FREE, a credit is spent, the frame takes its number. -/
def choosePush (tag : Tag) (s : State) : State :=
  { freeDone tag s with
    credits := s.credits - 1
    outSeq := s.outSeq + 1
    lastServed := .completion
    sending := some (completionFrame tag s).wire }

/-- The NOTICE frame of a source (R125). -/
def noticeFrame (e : SrcIx) (s : State) : Frame :=
  { seq := s.outSeq, kind := noticeKind, payload := s.sources[e.val].noticePayload e }

/-- A notice chosen (R113, R125): the head leaves the notice queue, its clear mode is applied, a
credit is spent, the frame takes its number. -/
def chooseNotice (e : SrcIx) (rest : List SrcIx) (s : State) : State :=
  { s with
    sources := s.sources.set e.val s.sources[e.val].delivered
    notices := rest
    credits := s.credits - 1
    outSeq := s.outSeq + 1
    lastServed := .notice
    sending := some (noticeFrame e s).wire }

/-- The choice of an unsolicited frame (R111 step 2, R112): with both classes waiting, the one the
class pointer does not name. -/
def chooseUnsolicited (s : State) : State :=
  match offered s, s.notices with
  | none, [] => s
  | some tag, [] => choosePush tag s
  | none, e :: rest => chooseNotice e rest s
  | some tag, e :: rest =>
    match s.lastServed with
    | .completion => chooseNotice e rest s
    | .notice => choosePush tag s

/-- The transmitter's choice: none while it sends, else the head of the reply queue, else an
unsolicited frame when the link is OPEN and a credit is held (R110, R111). -/
def choose (s : State) : State :=
  match s.sending with
  | some _ => s
  | none =>
    match s.replies with
    | f :: rest => chooseReply f rest s
    | [] => if s.link = .opened ∧ 0 < s.credits then chooseUnsolicited s else s

/-- The level of HTX between characters and while the transmitter is free: high (R138, R160). -/
def htxIdle : Bool := true

/-- The levels on HTX, bit time by bit time, from the choice of a frame on: its characters back to back,
then the level that is held until the next choice. A free transmitter holds HTX high, in cold reset
too (R110, R138, R160). -/
def htxLevels (s : State) : List Bool :=
  match s.sending with
  | none => [htxIdle]
  | some bytes => bytes.flatMap characterBits ++ [htxIdle]

/-- The credit counter's limit (R108). -/
def creditLimit : Nat := 31

/-- CREDIT (R109). -/
def reqCredit (payload : List Byte) (s : State) : State × Reply :=
  if creditLimit < (byteAt payload 0).toNat then (s, Reply.refusal .badArg)
  else
    let credits := min (s.credits + (byteAt payload 0).toNat) creditLimit
    ({ s with credits := credits }, Reply.okWith [byteOf credits])

end Sys2Proof.Machine
end

