-- ==== Sys2Proof/Machine/Link.lean ====
section
/-! DEFINITION. The Host Link Controller: IDENTIFY, OPEN, CLOSE, dispatch with its checks and the
reply cache, the inbound buffer, the receiver, and how a command ends. -/

namespace Sys2Proof.Machine

/-! ## Session requests -/

/-- The fields of an IDENTIFY reply (R159). -/
def identity (s : State) : List Byte :=
  le16 0x4C42 ++ le16 0x2418 ++ [1, 16, 8, 4, 32] ++ le16 256 ++
    [byteOf s.rateCode.toNat, s.loadOutcome.code, byteOf s.failureCode]

/-- IDENTIFY (R159). -/
def reqIdentify (_payload : List Byte) (s : State) : State × Reply :=
  (s, Reply.okWith (identity s))

/-- The session number after the next OPEN: up by 1, from 255 to 1 (R154). -/
def nextSession (n : Nat) : Nat := if 255 ≤ n then 1 else n + 1

/-- OPEN in CLOSED (R154). -/
def reqOpen (payload : List Byte) (s : State) : State × Reply :=
  ({ s with
      session := nextSession s.session
      holdTime := (byteAt payload 0).toNat
      outSeq := 0
      link := .opened },
    Reply.okWith [byteOf (nextSession s.session)])

/-- CLOSE in OPEN: a link reset that keeps the inbound buffer (R155, R157). -/
def reqClose (_payload : List Byte) (s : State) : State × Reply := (linkReset s, Reply.ok)

/-! ## Dispatch (R148–R153) -/

/-- The link state's refusal of a request kind, by the table of R153; SUBMIT in CLOSED is refused by
its own check 1 (R51). -/
def linkRefusal (r : Request) (link : LinkState) : Option Status :=
  match link, r with
  | .loading, _ => some .loading
  | .opened, .openSession => some .wrongState
  | .opened, _ => none
  | .closed, .identify => none
  | .closed, .openSession => none
  | .closed, .submit => none
  | .closed, .closeSession => some .wrongState
  | .closed, _ => some .notOpen

/-- The payload has the length given for the kind (R149 step 3, R167). -/
def lengthOk (r : Request) (payload : List Byte) : Bool :=
  match r.payloadLength with
  | none => true
  | some n => payload.length == n

/-- The owning block takes the request (R149 step 4). -/
def serve (r : Request) (payload : List Byte) (s : State) : State × Reply :=
  match r with
  | .identify => reqIdentify payload s
  | .openSession => reqOpen payload s
  | .closeSession => reqClose payload s
  | .credit => reqCredit payload s
  | .winSet => reqWinSet payload s
  | .winOpen => reqWinOpen payload s
  | .winClose => reqWinClose payload s
  | .winFree => reqWinFree payload s
  | .winQuery => reqWinQuery payload s
  | .profSet => reqProfSet payload s
  | .profQuery => reqProfQuery payload s
  | .submit => reqSubmit payload s
  | .collect => reqCollect payload s
  | .abort => reqAbort payload s
  | .slotQuery => reqSlotQuery payload s
  | .laneQuery => reqLaneQuery payload s
  | .laneResume => reqLaneResume payload s
  | .laneReset => reqLaneReset payload s
  | .evtSet => reqEvtSet payload s
  | .evtAck => reqEvtAck payload s
  | .evtQuery => reqEvtQuery payload s
  | .cfgImage => reqCfgImage payload s

/-- The execution of a frame by the checks of R149: the state after it and the reply. -/
def answer (f : Frame) (s : State) : State × Reply :=
  match requestOf f.kind with
  | none => (s, Reply.refusal .unknownKind)
  | some r =>
    match linkRefusal r s.link with
    | some status => (s, Reply.refusal status)
    | none => if lengthOk r f.payload then serve r f.payload s else (s, Reply.refusal .badLength)

/-- The KIND of the reply to a frame: its own plus 0x80, or 0xFF for an unknown kind (R150). -/
def replyKind (kind : Byte) : Byte :=
  match requestOf kind with
  | none => 0xFF
  | some _ => kind + 0x80

/-- The reply frame (R150). -/
def replyFrame (f : Frame) (r : Reply) : Frame :=
  { seq := f.seq, kind := replyKind f.kind, payload := r.payload }

/-- The cached reply that answers a frame: SEQ and KIND both equal (R152). -/
def cachedReply (f : Frame) (s : State) : Option Frame :=
  match s.cache with
  | none => none
  | some c => if c.seq = f.seq ∧ c.kind = f.kind then some c.reply else none

/-- Every executed request's reply becomes the cache entry, but the reply of an executed CLOSE
(R152, R155). -/
def entersCache (f : Frame) (r : Reply) : Bool :=
  !(f.kind == Request.closeSession.code && r.status == .ok)

/-- An executed frame: its effects, its reply queued, and the cache (R148, R151, R152). -/
def executed (f : Frame) (s : State) : State :=
  let a := answer f s
  { a.1 with
    replies := a.1.replies ++ [replyFrame f a.2]
    cache := if entersCache f a.2 then
        some { seq := f.seq, kind := f.kind, reply := replyFrame f a.2 }
      else a.1.cache }

/-- One dispatch of a frame that has left the buffer: a replay from the cache or an execution
(R148, R152). -/
def dispatch (f : Frame) (s : State) : State :=
  match cachedReply f s with
  | some reply => { s with replies := s.replies ++ [reply] }
  | none => executed f s

/-- The reply queue's capacity (R151). -/
def replyCapacity : Nat := 2

/-- Dispatch while the buffer holds a frame and the reply queue has room, the transmitter choosing
after each (R148). The first argument bounds the number of dispatches. -/
def dispatchFor : Nat → State → State
  | 0, s => s
  | n + 1, s =>
    match s.inbound with
    | [] => s
    | f :: rest =>
      if s.replies.length < replyCapacity then
        dispatchFor n (choose (dispatch f { s with inbound := rest }))
      else s

/-- The transmitter's choice, then the dispatches it makes room for (R110, R148). Each dispatch takes a
frame out of the buffer. -/
def settle (s : State) : State := dispatchFor (choose s).inbound.length (choose s)

/-- How a command ends: the choices and dispatches its changes call for, and ALERTn driven
(R110, R115, R148; log 8). -/
def finish (s : State) : Host.Outcome State Fault Refusal := .next (driveAlert (settle s))

/-- A command while the part is not held in cold reset; held, it reads no pin and changes nothing
(R174, log 4). -/
def whileRunning (s : State) (next : State) : Host.Outcome State Fault Refusal :=
  if s.inReset then .next s else finish next

/-! ## The inbound buffer (R147) -/

/-- The inbound buffer's capacity. -/
def inboundCapacity : Nat := 2

/-- A good frame offered to the inbound buffer: appended, or discarded with an OVERRUN error
(R147). -/
def offerFrame (f : Frame) (s : State) : State :=
  if s.inbound.length < inboundCapacity then { s with inbound := s.inbound ++ [f] }
  else linkError overrunBit s

/-- A request frame arrives good on HRX: it joins the inbound buffer and is dispatched as R148 lays
down (log 1). -/
def deliver (f : Frame) (s : State) : Host.Outcome State Fault Refusal :=
  if payloadFits f.payload then whileRunning s (offerFrame f s) else .fault .overlongPayload

/-- The LKn levels as a command finds them; held in cold reset they are not read (R174, log 3). -/
def withLk (lk : LkLevels) (s : State) : State := if s.inReset then s else { s with lk := lk }

/-! ## The receiver (R140–R145) -/

def setReceiver (r : Receiver) (s : State) : State := { s with receiver := r }

/-- The LEN field taken so far, least significant byte first (R142). -/
def Receiver.len (r : Receiver) : Nat := u16At r.lenBytes 0

/-- LEN in range (R142). -/
def lenOk (len : Nat) : Bool := 2 ≤ len && len ≤ 302

/-- The frame a full body holds: SEQ, KIND and the payload (R143). -/
def Receiver.frame (r : Receiver) : Frame :=
  { seq := byteAt r.body 0, kind := byteAt r.body 1, payload := r.body.drop 2 }

/-- A SYNC byte starts a frame (R141). -/
def Receiver.synced : Receiver := { Receiver.newHunt with state := .length, gapTimer := true }

/-- A LEN byte taken: stored and summed, the gap timer started again (R142, R144). -/
def Receiver.lenTaken (r : Receiver) (b : Byte) : Receiver :=
  { r with lenBytes := r.lenBytes ++ [b], sum := r.sum + b, gapTimer := true }

/-- A body byte taken: stored and summed, the gap timer started again; the last one leads to CHECK
(R143, R144). -/
def Receiver.bodyTaken (r : Receiver) (b : Byte) : Receiver :=
  { r with
    state := if r.len ≤ (r.body ++ [b]).length then .check else .body
    body := r.body ++ [b]
    sum := r.sum + b
    gapTimer := true }

/-- A byte discarded by a hunt: one HUNT error for each hunt (R141). -/
def huntDiscard (s : State) : State :=
  if s.receiver.huntFlag then s
  else linkError huntBit (setReceiver { s.receiver with huntFlag := true } s)

/-- A received byte (R140–R143). In LINE_LOW HRX is low and no byte can end; nothing changes
(log 13). -/
def receive (b : Byte) (s : State) : State :=
  match s.receiver.state with
  | .hunting => if b = syncByte then setReceiver Receiver.synced s else huntDiscard s
  | .length =>
    if s.receiver.lenBytes.isEmpty then setReceiver (s.receiver.lenTaken b) s
    else if lenOk (s.receiver.lenTaken b).len then
      setReceiver { s.receiver.lenTaken b with state := .body } s
    else linkError lengthBit (setReceiver Receiver.newHunt s)
  | .body => setReceiver (s.receiver.bodyTaken b) s
  | .check =>
    if s.receiver.sum + b = 0 then offerFrame s.receiver.frame (setReceiver Receiver.newHunt s)
    else linkError checkBit (setReceiver Receiver.newHunt s)
  | .lineLow => s

/-- The gap timer reaches 5 ms: a GAP error and a new hunt; a stopped timer cannot (R144). -/
def gapExpires (s : State) : State :=
  if s.receiver.gapTimer then linkError gapBit (setReceiver Receiver.newHunt s) else s

/-- The start bit of the next character stops the gap timer (R144). -/
def startBitFalls (s : State) : State := setReceiver { s.receiver with gapTimer := false } s

/-- The receiver as a character with a low stop bit leaves it: LINE_LOW, the line timer running, the
hunt flag kept from HUNTING alone (R145). -/
def Receiver.fallen (r : Receiver) : Receiver :=
  { Receiver.newHunt with
    state := .lineLow
    huntFlag := r.state == .hunting && r.huntFlag
    lineTimer := true }

/-- A character with a low stop bit (R145). In LINE_LOW HRX is still low and no character can end;
nothing changes (log 13). -/
def lineFalls (s : State) : State :=
  if s.receiver.state = .lineLow then s else setReceiver s.receiver.fallen s

/-- HRX rises in LINE_LOW (R145): after a break a new hunt; before it a framing fault, a byte
discarded by the hunt that goes on or begins. -/
def lineRises (s : State) : State :=
  if s.receiver.state = .lineLow then
    if s.receiver.lineTimer then
      huntDiscard
        (setReceiver { Receiver.newHunt with huntFlag := s.receiver.huntFlag } s)
    else setReceiver Receiver.newHunt s
  else s

/-- The line timer reaches 1 ms: a break, a link reset in CLOSED and OPEN that empties the inbound
buffer, ignored in LOADING; one break for one low period (R156, R157). -/
def breakDetected (s : State) : State :=
  if s.receiver.state = .lineLow ∧ s.receiver.lineTimer = true then
    let s' := setReceiver { s.receiver with lineTimer := false } s
    if s.link = .loading then s' else { linkReset s' with inbound := [] }
  else s

end Sys2Proof.Machine
end

