-- ==== Sys2Proof/Machine/RequestRows.lean ====
section
/-! DEFINITION. The meanings of the request rows: each is a frame of its KIND arriving good on HRX. -/

namespace Sys2Proof.Machine

/-- A frame of a request kind. -/
def requestFrame (r : Request) (seq : Byte) (payload : List Byte) : Frame :=
  { seq := seq, kind := r.code, payload := payload }

/-- CACHE_REPLAY (R152): a frame sent again; where its SEQ and KIND match the cache, the dispatch
queues a copy of the cached reply. -/
def execCacheReplay (seq kind : Byte) (payload : List Byte) (s : State) :
    Host.Outcome State Fault Refusal :=
  deliver { seq := seq, kind := kind, payload := payload } s

/-- UNKNOWN_KIND (R173). -/
def execUnknownKind (seq kind : Byte) (payload : List Byte) (s : State) :
    Host.Outcome State Fault Refusal :=
  if (requestOf kind).isSome then .fault .requestKind
  else deliver { seq := seq, kind := kind, payload := payload } s

/-- IDENTIFY (R159). -/
def execIdentify (seq : Byte) (payload : List Byte) (s : State) :
    Host.Outcome State Fault Refusal :=
  deliver (requestFrame .identify seq payload) s

/-- OPEN (R154). -/
def execOpen (seq : Byte) (payload : List Byte) (s : State) : Host.Outcome State Fault Refusal :=
  deliver (requestFrame .openSession seq payload) s

/-- CLOSE (R155). -/
def execClose (seq : Byte) (payload : List Byte) (s : State) : Host.Outcome State Fault Refusal :=
  deliver (requestFrame .closeSession seq payload) s

/-- CREDIT (R109). -/
def execCredit (seq : Byte) (payload : List Byte) (s : State) : Host.Outcome State Fault Refusal :=
  deliver (requestFrame .credit seq payload) s

/-- WIN_SET (R11). -/
def execWinSet (seq : Byte) (payload : List Byte) (s : State) : Host.Outcome State Fault Refusal :=
  deliver (requestFrame .winSet seq payload) s

/-- WIN_OPEN (R12). -/
def execWinOpen (seq : Byte) (payload : List Byte) (s : State) :
    Host.Outcome State Fault Refusal :=
  deliver (requestFrame .winOpen seq payload) s

/-- WIN_CLOSE (R13). -/
def execWinClose (seq : Byte) (payload : List Byte) (s : State) :
    Host.Outcome State Fault Refusal :=
  deliver (requestFrame .winClose seq payload) s

/-- WIN_FREE (R14). -/
def execWinFree (seq : Byte) (payload : List Byte) (s : State) :
    Host.Outcome State Fault Refusal :=
  deliver (requestFrame .winFree seq payload) s

/-- WIN_QUERY (R15). -/
def execWinQuery (seq : Byte) (payload : List Byte) (s : State) :
    Host.Outcome State Fault Refusal :=
  deliver (requestFrame .winQuery seq payload) s

/-- PROF_SET (R26). -/
def execProfSet (seq : Byte) (payload : List Byte) (s : State) :
    Host.Outcome State Fault Refusal :=
  deliver (requestFrame .profSet seq payload) s

/-- PROF_QUERY (R29). -/
def execProfQuery (seq : Byte) (payload : List Byte) (s : State) :
    Host.Outcome State Fault Refusal :=
  deliver (requestFrame .profQuery seq payload) s

/-- SUBMIT (R51). -/
def execSubmit (seq : Byte) (payload : List Byte) (lk : LkLevels) (s : State) :
    Host.Outcome State Fault Refusal :=
  deliver (requestFrame .submit seq payload) (withLk lk s)

/-- COLLECT (R101). -/
def execCollect (seq : Byte) (payload : List Byte) (s : State) :
    Host.Outcome State Fault Refusal :=
  deliver (requestFrame .collect seq payload) s

/-- ABORT (R65). -/
def execAbort (seq : Byte) (payload : List Byte) (lk : LkLevels) (s : State) :
    Host.Outcome State Fault Refusal :=
  deliver (requestFrame .abort seq payload) (withLk lk s)

/-- SLOT_QUERY (R68). -/
def execSlotQuery (seq : Byte) (payload : List Byte) (s : State) :
    Host.Outcome State Fault Refusal :=
  deliver (requestFrame .slotQuery seq payload) s

/-- LANE_QUERY (R93). -/
def execLaneQuery (seq : Byte) (payload : List Byte) (lk : LkLevels) (s : State) :
    Host.Outcome State Fault Refusal :=
  deliver (requestFrame .laneQuery seq payload) (withLk lk s)

/-- The levels kept for the grant of a LANE_RESUME, dropped at its end. -/
def forgetGrantLevels : Host.Outcome State Fault Refusal → Host.Outcome State Fault Refusal
  | .next t => .next { t with lkAtGrant := none }
  | .fault f => .fault f
  | .refused r => .refused r

/-- LANE_RESUME (R89); LKn may change between its check and the grant after it (log 3). -/
def execLaneResume (seq : Byte) (payload : List Byte) (lk lkGrant : LkLevels) (s : State) :
    Host.Outcome State Fault Refusal :=
  if lk = lkGrant ∨ s.inReset = true then
    deliver (requestFrame .laneResume seq payload) (withLk lk s)
  else
    forgetGrantLevels (deliver (requestFrame .laneResume seq payload)
      { withLk lk s with lkAtGrant := some lkGrant })

/-- LANE_RESET (R90). -/
def execLaneReset (seq : Byte) (payload : List Byte) (lk : LkLevels) (s : State) :
    Host.Outcome State Fault Refusal :=
  deliver (requestFrame .laneReset seq payload) (withLk lk s)

/-- EVT_SET (R132). -/
def execEvtSet (seq : Byte) (payload : List Byte) (s : State) : Host.Outcome State Fault Refusal :=
  deliver (requestFrame .evtSet seq payload) s

/-- EVT_ACK (R130). -/
def execEvtAck (seq : Byte) (payload : List Byte) (s : State) : Host.Outcome State Fault Refusal :=
  deliver (requestFrame .evtAck seq payload) s

/-- EVT_QUERY (R135). -/
def execEvtQuery (seq : Byte) (payload : List Byte) (s : State) :
    Host.Outcome State Fault Refusal :=
  deliver (requestFrame .evtQuery seq payload) s

/-- CFG_IMAGE (R188). -/
def execCfgImage (seq : Byte) (payload : List Byte) (s : State) :
    Host.Outcome State Fault Refusal :=
  deliver (requestFrame .cfgImage seq payload) s

end Sys2Proof.Machine
end

