-- ==== Sys2Proof/Machine/EventRows.lean ====
section
/-! DEFINITION. The meanings of the event rows: resets, the receiver's events, the transmitter, the
lanes, the timers and the attention pins. -/

namespace Sys2Proof.Machine

/-! ## Resets -/

/-- The state a cold reset leaves (R174): every block at its cold reset value; the pin levels, the
waiting commands and the model's counter are outside the part and stay. -/
def coldState (s : State) : State :=
  { State.reset with
    rdy := s.rdy
    lk := s.lk
    filters := s.rdy.map freshFilter
    freeCount := s.freeCount
    pending := s.pending }

/-- COLD_RESET (R174). -/
def execColdReset (s : State) : Host.Outcome State Fault Refusal := .next (coldState s)

/-- The part at the end of a cold reset: the straps sampled, the link CLOSED, or LOADING with the
header read presented to L0 (R175). -/
def releasedState (rate : BitVec 2) (cfgsrc : Bool) (s : State) : State :=
  let s' := { s with inReset := false, rateCode := rate, cfgsrc := cfgsrc, link := .closed }
  if cfgsrc then arbitrate 0 (startLoad s') else s'

/-- COLD_RESET_END (R175). A part that is not held in cold reset has none to end: nothing changes
(log 7). -/
def execColdResetEnd (rate : BitVec 2) (cfgsrc : Bool) (lk : LkLevels) (s : State) :
    Host.Outcome State Fault Refusal :=
  if s.inReset then finish (releasedState rate cfgsrc { s with lk := lk }) else .next s

/-! ## The receiver -/

/-- RECEIVE_BYTE (R140). -/
def execReceiveByte (b : Byte) (lk : LkLevels) (s : State) : Host.Outcome State Fault Refusal :=
  whileRunning s (receive b (withLk lk s))

/-- GAP_TIMEOUT (R144). -/
def execGapTimeout (s : State) : Host.Outcome State Fault Refusal := whileRunning s (gapExpires s)

/-- LINE_LOW (R145). -/
def execLineLow (s : State) : Host.Outcome State Fault Refusal := whileRunning s (lineFalls s)

/-- HRX_RISE (R145). -/
def execHrxRise (s : State) : Host.Outcome State Fault Refusal := whileRunning s (lineRises s)

/-- BREAK (R156). -/
def execBreak (s : State) : Host.Outcome State Fault Refusal := whileRunning s (breakDetected s)

/-- START_BIT (R144). -/
def execStartBit (s : State) : Host.Outcome State Fault Refusal :=
  whileRunning s (startBitFalls s)

/-! ## The transmitter and the lanes -/

/-- FRAME_SENT (R110): the transmitter is free and makes its next choice. A free transmitter ends no
frame: nothing changes but the choice it may make (log 7). -/
def execFrameSent (lk : LkLevels) (s : State) : Host.Outcome State Fault Refusal :=
  whileRunning s { withLk lk s with sending := none }

/-- ACCESS_END (R41, R82). -/
def execAccessEnd (lane : LaneIx) (data : List Byte) (lk : LkLevels) (s : State) :
    Host.Outcome State Fault Refusal :=
  whileRunning s (endAccess lane data (withLk lk s))

/-- LANE_FAULT (R84). On a lane with no access the assertion cuts nothing and is met at the next
grant (R80, R85). -/
def execLaneFault (lane : LaneIx) (lk : LkLevels) (s : State) :
    Host.Outcome State Fault Refusal :=
  whileRunning s (cutAccess lane (withLk lk s))

/-! ## Timers -/

/-- A PAUSED slot's retry interval expires: QUEUED, the rest unchanged, and its lane may grant it;
the timer runs in no other state (R57). -/
def retryExpires (tag : Tag) (s : State) : State :=
  if s.slots[tag.val].state = .paused then
    arbitrate (laneOf s.slots[tag.val].target)
      (setSlot tag { s.slots[tag.val] with state := .queued, retryTimer := none } s)
  else s

/-- RETRY_EXPIRY (R57). -/
def execRetryExpiry (tag : Tag) (lk : LkLevels) (s : State) : Host.Outcome State Fault Refusal :=
  whileRunning s (retryExpires tag (withLk lk s))

/-- A DONE slot's hold timer expires: FREE, listed as discarded, an E9 occurrence with its bit; a
slot without a running hold timer cannot expire (R104). -/
def holdExpires (tag : Tag) (s : State) : State :=
  if s.slots[tag.val].state = .done ∧ s.slots[tag.val].holdTimer.isSome then
    occur discardSource (maskBit tag.val) (listDiscard tag (freeDone tag s))
  else s

/-- HOLD_EXPIRY (R104). -/
def execHoldExpiry (tag : Tag) (s : State) : Host.Outcome State Fault Refusal :=
  whileRunning s (holdExpires tag s)

/-! ## Attention pins (R43, R44) -/

/-- The change of a pin while the part is held in cold reset: the pin is not read, and its filter
starts afresh from the level it has when the reset ends (R45, R174; log 4). -/
def heldPin (t : Target) (level : Bool) (s : State) : State :=
  setFilter t (freshFilter level) (setPin t level s)

/-- ATTN_FALL (R44); the fall of a ready input reaches no filter (R43). -/
def execAttnFall (t : Target) (s : State) : Host.Outcome State Fault Refusal :=
  if s.inReset then .next (heldPin t false s)
  else if readyMethodAt t s = .readyLine then finish (setPin t false s)
  else finish (filterFall t (setPin t false s))

/-- ATTN_RISE (R44); the rise of a ready input reaches no filter (R43). -/
def execAttnRise (t : Target) (s : State) : Host.Outcome State Fault Refusal :=
  if s.inReset then .next (heldPin t true s)
  else if readyMethodAt t s = .readyLine then finish (setPin t true s)
  else finish (filterRise t (setPin t true s))

/-- FILTER_EXPIRY (R44). -/
def execFilterExpiry (t : Target) (s : State) : Host.Outcome State Fault Refusal :=
  whileRunning s (filterExpires t s)

end Sys2Proof.Machine
end

