-- ==== Sys2Proof/Machine/Dispatch.lean ====
section
/-! DEFINITION. The meaning of every command, one arm for each row of spec/opcode_table.json. -/

namespace Sys2Proof.Machine

def exec (i : Instr) (s : State) : Host.Outcome State Fault Refusal :=
  match i with
  | .coldReset => Sys2Proof.Machine.execColdReset s
  | .coldResetEnd rate cfgsrc lk => Sys2Proof.Machine.execColdResetEnd rate cfgsrc lk s
  | .receiveByte b lk => Sys2Proof.Machine.execReceiveByte b lk s
  | .gapTimeout => Sys2Proof.Machine.execGapTimeout s
  | .lineLow => Sys2Proof.Machine.execLineLow s
  | .hrxRise => Sys2Proof.Machine.execHrxRise s
  | .lineBreak => Sys2Proof.Machine.execBreak s
  | .cacheReplay seq kind payload => Sys2Proof.Machine.execCacheReplay seq kind payload s
  | .unknownKind seq kind payload => Sys2Proof.Machine.execUnknownKind seq kind payload s
  | .identify seq payload => Sys2Proof.Machine.execIdentify seq payload s
  | .openSession seq payload => Sys2Proof.Machine.execOpen seq payload s
  | .closeSession seq payload => Sys2Proof.Machine.execClose seq payload s
  | .credit seq payload => Sys2Proof.Machine.execCredit seq payload s
  | .winSet seq payload => Sys2Proof.Machine.execWinSet seq payload s
  | .winOpen seq payload => Sys2Proof.Machine.execWinOpen seq payload s
  | .winClose seq payload => Sys2Proof.Machine.execWinClose seq payload s
  | .winFree seq payload => Sys2Proof.Machine.execWinFree seq payload s
  | .winQuery seq payload => Sys2Proof.Machine.execWinQuery seq payload s
  | .profSet seq payload => Sys2Proof.Machine.execProfSet seq payload s
  | .profQuery seq payload => Sys2Proof.Machine.execProfQuery seq payload s
  | .submit seq payload lk => Sys2Proof.Machine.execSubmit seq payload lk s
  | .collect seq payload => Sys2Proof.Machine.execCollect seq payload s
  | .abort seq payload lk => Sys2Proof.Machine.execAbort seq payload lk s
  | .slotQuery seq payload => Sys2Proof.Machine.execSlotQuery seq payload s
  | .laneQuery seq payload lk => Sys2Proof.Machine.execLaneQuery seq payload lk s
  | .laneResume seq payload lk lkGrant => Sys2Proof.Machine.execLaneResume seq payload lk lkGrant s
  | .laneReset seq payload lk => Sys2Proof.Machine.execLaneReset seq payload lk s
  | .evtSet seq payload => Sys2Proof.Machine.execEvtSet seq payload s
  | .evtAck seq payload => Sys2Proof.Machine.execEvtAck seq payload s
  | .evtQuery seq payload => Sys2Proof.Machine.execEvtQuery seq payload s
  | .cfgImage seq payload => Sys2Proof.Machine.execCfgImage seq payload s
  | .frameSent lk => Sys2Proof.Machine.execFrameSent lk s
  | .accessEnd lane data lk => Sys2Proof.Machine.execAccessEnd lane data lk s
  | .laneFault lane lk => Sys2Proof.Machine.execLaneFault lane lk s
  | .retryExpiry tag lk => Sys2Proof.Machine.execRetryExpiry tag lk s
  | .holdExpiry tag => Sys2Proof.Machine.execHoldExpiry tag s
  | .attnFall t => Sys2Proof.Machine.execAttnFall t s
  | .attnRise t => Sys2Proof.Machine.execAttnRise t s
  | .filterExpiry t => Sys2Proof.Machine.execFilterExpiry t s
  | .startBit => Sys2Proof.Machine.execStartBit s

end Sys2Proof.Machine
end

