-- ==== Sys2Proof/Safety.lean ====
section
/-! DEFINITION. What the claims speak of: the laws the spec states over the whole part, each a
predicate of State that every step should keep, and the conditions under which a request frame is
executed at once. -/

namespace Sys2Proof.Machine

/-! ## The transmitter and dispatch -/

/-- A free transmitter has nothing to send (R110, R111): no reply waits, and no unsolicited frame
that the link state and the credits let it choose. -/
def TransmitterSettled (s : State) : Prop :=
  s.sending = none →
    s.replies = [] ∧ ¬ (s.link = .opened ∧ 0 < s.credits ∧ unsolicitedWaits s = true)

/-- Every choice and every dispatch that could be made has been made (R110, R148). -/
def Settled (s : State) : Prop :=
  TransmitterSettled s ∧ (s.inbound ≠ [] → replyCapacity ≤ s.replies.length)

/-- A request frame that arrives now is executed at once: the part runs, no earlier frame waits, the
reply queue has room, and the reply cache does not answer it (R148, R152). -/
def ReadyFor (f : Frame) (s : State) : Prop :=
  s.inReset = false ∧ s.inbound = [] ∧ s.replies.length < replyCapacity ∧
    TransmitterSettled s ∧ cachedReply f s = none

/-- The state once a reply has been formed: the reply queued and cached, the transmitter's choice
made, ALERTn driven (R110, R115, R151, R152). -/
def answeredWith (f : Frame) (r : Reply) (s : State) : State :=
  driveAlert (choose
    { s with
      replies := s.replies ++ [replyFrame f r]
      cache := if entersCache f r then
          some { seq := f.seq, kind := f.kind, reply := replyFrame f r }
        else s.cache })

/-- The state once an event's own changes have been made: choices, dispatches, ALERTn
(R110, R115, R148). -/
def afterEvent (s : State) : State := driveAlert (settle s)

/-! ## Commands and runs -/

/-- The row of a request kind with its operands. -/
def Request.command (r : Request) (seq : Byte) (payload : List Byte) (lk : LkLevels) : Instr :=
  match r with
  | .identify => .identify seq payload
  | .openSession => .openSession seq payload
  | .closeSession => .closeSession seq payload
  | .credit => .credit seq payload
  | .winSet => .winSet seq payload
  | .winOpen => .winOpen seq payload
  | .winClose => .winClose seq payload
  | .winFree => .winFree seq payload
  | .winQuery => .winQuery seq payload
  | .profSet => .profSet seq payload
  | .profQuery => .profQuery seq payload
  | .submit => .submit seq payload lk
  | .collect => .collect seq payload
  | .abort => .abort seq payload lk
  | .slotQuery => .slotQuery seq payload
  | .laneQuery => .laneQuery seq payload lk
  | .laneResume => .laneResume seq payload lk lk
  | .laneReset => .laneReset seq payload lk
  | .evtSet => .evtSet seq payload
  | .evtAck => .evtAck seq payload
  | .evtQuery => .evtQuery seq payload
  | .cfgImage => .cfgImage seq payload

/-- The LKn levels once the row of a request kind is taken: those the row carries, for the rows that
sample LKn (log 3). -/
def Request.lkFound (r : Request) (lk held : LkLevels) : LkLevels :=
  match r with
  | .submit | .abort | .laneQuery | .laneResume | .laneReset => lk
  | _ => held

/-- Commands run one after another, to the first fault or refusal. -/
def runCommands : List Instr → State → Host.Outcome State Fault Refusal
  | [], s => .next s
  | c :: rest, s =>
    match exec c s with
    | .next t => runCommands rest t
    | .fault r => .fault r
    | .refused r => .refused r

/-- The commands that act while the part is held in cold reset: the two of the reset itself and the
levels of the attention pins (R174, log 4). -/
def actsWhileHeld (c : Instr) : Bool :=
  match c with
  | .coldReset | .coldResetEnd _ _ _ | .attnFall _ | .attnRise _ => true
  | _ => false

/-! ## Laws of the tables -/

/-- The capacities and ranges of queues, buffers and counters (R73, R96, R106, R108, R147, R151, R154,
R103). -/
def Bounded (s : State) : Prop :=
  s.inbound.length ≤ 2 ∧ s.replies.length ≤ 2 ∧ s.credits ≤ 31 ∧ s.discards.length ≤ 8 ∧
    s.session ≤ 255 ∧ s.holdTime ≤ 255 ∧ (∀ t : Target, s.queues[t.val].length ≤ 16)

/-- A source record by its state (R119, R121). -/
def SourceLaw (src : Source) : Prop :=
  src.count ≤ 255 ∧
    (src.state = .idle → src.count = 0 ∧ src.reported = 0 ∧ src.detail = 0) ∧
    (src.state = .queued → 0 < src.count ∧ src.reported = 0 ∧ src.enabled = true) ∧
    (src.state = .reported →
      0 < src.reported ∧ src.reported ≤ src.count ∧ src.enabled = true ∧ src.mode = .onAck)

/-- Count 0 exactly when IDLE; in the notice queue, once, exactly when QUEUED; QUEUED or REPORTED
only while enabled (R121, R124). -/
def EventLaw (s : State) : Prop :=
  (∀ e : SrcIx, SourceLaw s.sources[e.val]) ∧
    (∀ e : SrcIx, e ∈ s.notices ↔ s.sources[e.val].state = .queued) ∧ s.notices.Nodup

/-- The attention source of a READY_LINE target is disabled (R28). -/
def ReadyLineLaw (s : State) : Prop :=
  ∀ t : Target, readyMethodAt t s = .readyLine → s.sources[(attnSource t).val].enabled = false

/-- A lane is BUSY or RESETTING exactly while it has an access in progress (R77). -/
def LaneLaw (s : State) : Prop :=
  ∀ l : LaneIx, s.lanes[l.val].access.isSome = true ↔
    s.lanes[l.val].state = .busy ∨ s.lanes[l.val].state = .resetting

/-- The tables a load finds (R22, R153): every window is FREE in cold reset and while a load is in
progress, and a load is in progress only in LOADING. -/
def LoadLaw (s : State) : Prop :=
  (s.inReset = true → s.loadPhase = none ∧ ∀ i : WinIx, s.windows[i.val].state = .free) ∧
    (s.loadPhase.isSome = true →
      s.link = .loading ∧ ∀ i : WinIx, s.windows[i.val].state = .free)

/-- No levels are kept for the grant of a LANE_RESUME between commands (log 3). -/
def GrantLevelsLaw (s : State) : Prop := s.lkAtGrant = none

/-- No bridge address lies inside two windows that are both OPEN (R8). -/
def OverlapLaw (s : State) : Prop :=
  ∀ i j : WinIx, i ≠ j → s.windows[i.val].state = .opened → s.windows[j.val].state = .opened →
    rangesMeet s.windows[i.val].base s.windows[i.val].limit s.windows[j.val].base
      s.windows[j.val].limit = false

/-- The profile of a target is SET while an OPEN or DRAINING window names it and while its queue holds
a tag (R27). -/
def ProfileLaw (s : State) : Prop :=
  (∀ i : WinIx, s.windows[i.val].state = .opened ∨ s.windows[i.val].state = .draining →
    (s.profiles[(s.windows[i.val].target).val]).isSome = true) ∧
  ∀ (t : Target) (tag : Tag), tag ∈ s.queues[t.val] → (s.profiles[t.val]).isSome = true

/-- The number of live slots accepted through a window (R16). -/
def liveThrough (i : WinIx) (s : State) : Nat :=
  s.slots.toList.countP fun sl => sl.live && sl.window == i

/-- The outstanding count of every window is its number of live slots; FREE and CLOSED windows have
none and a DRAINING window has some (R16, R3). -/
def CountLaw (s : State) : Prop :=
  ∀ i : WinIx, s.windows[i.val].outstanding = liveThrough i s ∧
    (s.windows[i.val].state = .free ∨ s.windows[i.val].state = .closed →
      s.windows[i.val].outstanding = 0) ∧
    (s.windows[i.val].state = .draining → 0 < s.windows[i.val].outstanding)

/-- A slot that stands in a target queue (R49). -/
def Slot.inQueue (sl : Slot) : Prop :=
  sl.state = .queued ∨ sl.state = .active ∨ sl.state = .paused

/-- Every slot in QUEUED, PAUSED or ACTIVE stands once in the queue of its own target and no other
slot stands in any (R49). -/
def QueueLaw (s : State) : Prop :=
  (∀ (t : Target) (tag : Tag), tag ∈ s.queues[t.val] ↔
      s.slots[tag.val].inQueue ∧ s.slots[tag.val].target = t) ∧
    ∀ t : Target, s.queues[t.val].Nodup

/-- Only the head of a target queue is ever ACTIVE or PAUSED: every slot behind it is QUEUED
(R49, R74). -/
def HeadLaw (s : State) : Prop :=
  ∀ (t : Target) (head tag : Tag) (behind : List Tag),
    s.queues[t.val] = head :: behind → tag ∈ behind → s.slots[tag.val].state = .queued

/-- A tag stands in the delivery queue, once, exactly when its slot is DONE (R96). -/
def DeliveryLaw (s : State) : Prop :=
  (∀ tag : Tag, tag ∈ s.delivery ↔ s.slots[tag.val].state = .done) ∧ s.delivery.Nodup

/-- Every tag on the discard list belongs to a FREE slot, and none stands there twice (R106). -/
def DiscardLaw (s : State) : Prop :=
  (∀ tag : Tag, tag ∈ s.discards → s.slots[tag.val].state = .free) ∧ s.discards.Nodup

/-- The progress of a slot never exceeds its length, or 1 for COMMAND (R62). -/
def ProgressLaw (s : State) : Prop :=
  ∀ tag : Tag,
    s.slots[tag.val].progress ≤
      if s.slots[tag.val].kind = .command then 1 else s.slots[tag.val].length

/-- ALERTn is low exactly while an unsolicited frame waits and none can be sent (R115). -/
def AlertLaw (s : State) : Prop := s.alertn = !alertCondition s

/-! ## Falls of the window counts -/

/-- The windows whose drain completes when `left i` live slots of each window Wi leave: those DRAINING
whose count, above zero, comes down to zero (R18). -/
def drainedBy (left : WinIx → Nat) (s : State) : List WinIx :=
  (List.finRange 16).filter fun i =>
    s.windows[i.val].state == .draining && 0 < s.windows[i.val].outstanding &&
      s.windows[i.val].outstanding ≤ left i

/-- What `t` holds in its windows, sources and notice queue once `left i` live slots of each window Wi
of `s` have left: the counts lower, a window drained CLOSED with its fields kept, and one occurrence of
E8 for each of them, its bits joined into the mask, its record alone changed (R16, R18, R122). -/
def CountsFall (left : WinIx → Nat) (s t : State) : Prop :=
  let drained := drainedBy left s
  let mask : BitVec 32 := drained.foldl (fun m i => m ||| BitVec.ofNat 32 (2 ^ i.val)) 0
  let before := s.sources[8]
  (∀ i : WinIx, t.windows[i.val] =
    { s.windows[i.val] with
      state := if i ∈ drained then .closed else s.windows[i.val].state
      outstanding := s.windows[i.val].outstanding - left i }) ∧
  (∀ e : SrcIx, e ≠ 8 → t.sources[e.val] = s.sources[e.val]) ∧
  (drained = [] ∨ before.enabled = false →
    t.sources[8] = before ∧ t.notices = s.notices) ∧
  (drained ≠ [] → before.enabled = true → before.state = .idle →
    t.sources[8] = { before with state := .queued, count := drained.length, detail := mask } ∧
      t.notices = s.notices ++ [8]) ∧
  (drained ≠ [] → before.enabled = true → before.state ≠ .idle →
    t.sources[8] =
        { before with
          count := min (before.count + drained.length) 255, detail := before.detail ||| mask } ∧
      t.notices = s.notices)

/-! ## SUBMIT payloads -/

/-- A payload that passes checks 2 and 3 of SUBMIT, with its tag, its bridge address, the last bridge
address of its range and the rights that its kind requires (R52, R5, R6, Tables 8-3 to 8-6). -/
def SubmitShape (payload : List Byte) (tag : Tag) (address : Addr) (last : Nat) (need : Rights) :
    Prop :=
  ∃ pullOnly : Bool,
    (∃ n : Nat, 1 ≤ n ∧ n ≤ 256 ∧
      payload = [byteOf tag.val, 0, boolByte pullOnly] ++ le32 address ++ le16 n ∧
      last = address.toNat + n - 1 ∧
      need = { read := true, write := false, command := false }) ∨
    (∃ data : List Byte, 1 ≤ data.length ∧ data.length ≤ 256 ∧
      payload = [byteOf tag.val, 1, boolByte pullOnly] ++ le32 address ++ le16 data.length ++ data ∧
      last = address.toNat + data.length - 1 ∧
      need = { read := false, write := true, command := false }) ∨
    ∃ (opcode : Byte) (usesAddress preamble : Bool) (part : List Byte) (readPart : Nat),
      part.length ≤ 16 ∧ readPart ≤ 16 ∧
      payload = [byteOf tag.val, 2, boolByte pullOnly] ++ le32 address ++
        [opcode, boolByte usesAddress, boolByte preamble, byteOf part.length, byteOf readPart] ++
        part ∧
      last = address.toNat ∧
      need = { read := false, write := !part.isEmpty, command := true }

/-- The rights held lack one that is needed (R6). -/
def Rights.lack (held need : Rights) : Prop :=
  (need.read = true ∧ held.read = false) ∨ (need.write = true ∧ held.write = false) ∨
    (need.command = true ∧ held.command = false)

/-! ## Faults of a configuration image -/

/-- A field of a profile record, at record offset `j` with byte `b`, is out of its range (R182). -/
def ProfileFieldBad (j : Nat) (b : Byte) : Prop :=
  (j = 0 ∧ 7 < b.toNat) ∨ (j = 1 ∧ b ≠ 2 ∧ b ≠ 3 ∧ b ≠ 4) ∨ (j = 3 ∧ 8 < b.toNat) ∨
    (j = 6 ∧ b ≠ 1 ∧ b ≠ 2 ∧ b ≠ 4) ∨ (j = 8 ∧ 8 < b.toNat) ∨ (j = 9 ∧ 2 < b.toNat) ∨
    (j = 12 ∧ b = 0) ∨ (j = 14 ∧ 3 < b.toNat)

/-- A field of the window record at image offset `start`, its first byte at record offset `j`, is out of
its range (R182). -/
def WindowFieldBad (img : List Byte) (start j : Nat) : Prop :=
  (j = 0 ∧ 15 < (byteAt img start).toNat) ∨ (j = 1 ∧ 1 < (byteAt img (start + 1)).toNat) ∨
    (j = 2 ∧ (byteAt img (start + 2) = 0 ∨ 7 < (byteAt img (start + 2)).toNat)) ∨
    (j = 3 ∧ 7 < (byteAt img (start + 3)).toNat) ∨
    (j = 4 ∧ (u32At img (start + 4)).toNat % 1024 ≠ 0) ∨
    (j = 8 ∧ (((u32At img (start + 8)).toNat + 1) % 1024 ≠ 0 ∨
      (u32At img (start + 8)).toNat < (u32At img (start + 4)).toNat)) ∨
    (j = 12 ∧ (u32At img (start + 12)).toNat % 1024 ≠ 0)

/-- The image fails the check of a code at a byte offset (R181, R182, R8, R9). Profile record k starts
at 5 + 15k, window record k at 5 + 15P + 16k. -/
def ImageFault (img : List Byte) (code offset : Nat) : Prop :=
  let p := (byteAt img 3).toNat
  let w := (byteAt img 4).toNat
  let size := 7 + 15 * p + 16 * w
  let prof := fun k : Nat => 5 + 15 * k
  let win := fun k : Nat => 5 + 15 * p + 16 * k
  let opens := fun k : Nat => byteAt img (win k + 1) = 1
  let base := fun k : Nat => (u32At img (win k + 4)).toNat
  let limit := fun k : Nat => (u32At img (win k + 8)).toNat
  (code = 4 ∧ offset = size - 2 ∧
    u16At img (size - 2) ≠ ((img.take (size - 2)).map BitVec.toNat).sum % 65536) ∨
  (code = 5 ∧
    ((∃ k j : Nat, k < p ∧ j < 15 ∧ offset = prof k + j ∧ ProfileFieldBad j (byteAt img offset)) ∨
      ∃ k j : Nat, k < w ∧ j < 16 ∧ offset = win k + j ∧ WindowFieldBad img (win k) j)) ∨
  (code = 6 ∧
    ((∃ j k : Nat, j < k ∧ k < p ∧ offset = prof k ∧ byteAt img (prof j) = byteAt img (prof k)) ∨
      ∃ j k : Nat, j < k ∧ k < w ∧ offset = win k ∧ byteAt img (win j) = byteAt img (win k))) ∨
  (code = 7 ∧ ∃ k : Nat, k < w ∧ offset = win k + 3 ∧
    ∀ j : Nat, j < p → byteAt img (prof j) ≠ byteAt img (win k + 3)) ∨
  (code = 8 ∧ ∃ j k : Nat, j < k ∧ k < w ∧ offset = win k ∧ opens j ∧ opens k ∧
    base j ≤ limit k ∧ base k ≤ limit j) ∨
  (code = 9 ∧ ∃ j k : Nat, j < p ∧ k < w ∧ offset = win k ∧ opens k ∧
    byteAt img (prof j) = byteAt img (win k + 3) ∧
    2 ^ (8 * (byteAt img (prof j + 1)).toNat) ≤
      (u32At img (win k + 12)).toNat + (limit k - base k))

end Sys2Proof.Machine
end

