-- ==== Sys2Proof/Certificates/Slice0/Obligations.lean ====
section
/-! DEFINITION. The statements about the OC2418, from the rules of spec/. Where a right side names
`answeredWith` or `afterEvent`, a reply or an event has been taken and what remains is the choice of the
transmitter, the dispatches it allows and ALERTn; `AnsweredRequestLeaves` and `FrameSentMakesTheNextChoice`
say what those do. A request row is its frame arriving good on HRX (DEDUCED, log 1); what an event
leaves is settled after its changes (DEDUCED, log 8). -/

open Sys2Proof Sys2Proof.Machine

/-! ## The step and the commands -/

/-- A step runs the command at the front of the queue with the queue's rest; on an empty queue the
block idles (DESIGN CHOICE, log 2). -/
def Obligations.StepRunsFrontCommand : Prop :=
  (∀ (c : Instr) (rest : List Instr) (s : State),
    step { s with pending := c :: rest } = exec c { s with pending := rest }) ∧
  ∀ s : State, s.pending = [] → step s = .next s

/-- Every well-formed command answers a next state and leaves the waiting commands alone; an
ill-formed one faults (log 12). -/
def Obligations.WellFormedCommandsComplete : Prop :=
  ∀ (c : Instr) (s : State),
    (c.wellFormed = true → ∃ t, exec c s = .next t ∧ t.pending = s.pending) ∧
    (c.wellFormed = false → ∃ r, exec c s = .fault r)

/-- Held in cold reset, the part is changed by the end of the reset, by a new reset and, in its pin
levels and their filters, by the attention pins alone (R174; DESIGN CHOICE, log 4). -/
def Obligations.HeldPartKeepsItsState : Prop :=
  (∀ (c : Instr) (s : State), s.inReset = true → c.wellFormed = true → actsWhileHeld c = false →
    exec c s = .next s) ∧
  ∀ (t : Target) (s : State), s.inReset = true →
    exec (.attnFall t) s = .next { s with
      rdy := s.rdy.set t.val false, filters := s.filters.set t.val .low } ∧
    exec (.attnRise t) s = .next { s with
      rdy := s.rdy.set t.val true, filters := s.filters.set t.val .high }

/-! ## Cold reset -/

/-- What a cold reset leaves in every block (R22, R46, R72, R95, R117, R136, R160, R174), and on the
outputs: HTX high, every LCLKn low, every select high, every LDn line released. -/
def Obligations.ColdResetValues : Prop :=
  ∀ s : State, ∃ t, exec .coldReset s = .next t ∧
    (∀ i : WinIx, t.windows[i.val] = Window.freed) ∧
    (∀ n : Target, t.profiles[n.val] = none ∧ t.queues[n.val] = [] ∧
      t.filters[n.val] = if s.rdy[n.val] then .high else .low) ∧
    (∀ tag : Tag, t.slots[tag.val] = Slot.freed) ∧ t.delivery = [] ∧ t.discards = [] ∧
    (∀ l : LaneIx, t.lanes[l.val] = { state := .idle, pointer := 0, access := none }) ∧
    (∀ e : SrcIx, t.sources[e.val] =
      if e = 15 then Source.resting true .onAck else Source.resting false .onDelivery) ∧
    t.notices = [] ∧ t.credits = 0 ∧ t.holdTime = 50 ∧ t.lastServed = .notice ∧ t.outSeq = 0 ∧
    t.sending = none ∧ t.alertn = true ∧ t.session = 0 ∧ t.receiver = Receiver.newHunt ∧
    t.inbound = [] ∧ t.replies = [] ∧ t.cache = none ∧ t.snapshot = none ∧
    t.loadOutcome = .notAttempted ∧ t.failureCode = 0 ∧ t.loadPhase = none ∧ t.loadBuffer = [] ∧
    t.bootRead = none ∧ t.inReset = true ∧ htxLevels t = [true] ∧
    ∀ l : LaneIx, t.lanes[l.val].outputs = .steady
      { lclk := some false, lsel0 := some true, lsel1 := some true
        ld := { ld0 := none, ld1 := none, ld2 := none, ld3 := none } }

/-- The end of a cold reset (R175, R176, R83, R183): the straps sampled, then one of three cases. With
CFGSRC 0 the link is CLOSED and no load is made. With CFGSRC 1 and LK0 released the link is LOADING and
the header read is on L0, by the boot profile of R30: opcode 0x03, three address bytes, no dummy bytes,
one line, divider 23. With CFGSRC 1 and LK0 asserted the grant faults L0 and the load ends FAILED with
code 10 and the link CLOSED. -/
def Obligations.ColdResetEndSamplesTheStraps : Prop :=
  ∀ (rate : BitVec 2) (lk : LkLevels) (s : State), s.inReset = true →
    exec (.coldResetEnd rate false lk) s = .next (afterEvent { s with
      inReset := false, rateCode := rate, cfgsrc := false, link := .closed, lk := lk }) ∧
    (s.lanes[0] = { state := .idle, pointer := 0, access := none } → s.queues[1] = [] →
      lk[0] = true →
      exec (.coldResetEnd rate true lk) s = .next (afterEvent { s with
        inReset := false, rateCode := rate, cfgsrc := true, link := .loading, lk := lk
        loadPhase := some .header, loadBuffer := [], bootRead := some { address := 0, count := 5 }
        lanes := s.lanes.set 0
          { state := .busy, pointer := 1
            access := some
              { tag := none, accessType := .bootRead, select := 0, divider := 23
                periods := [[.drive 1 [0x03, 0, 0, 0], .dummy 1 0, .sample 1 5]] } } })) ∧
    (s.lanes[0] = { state := .idle, pointer := 0, access := none } → s.queues[1] = [] →
      lk[0] = false →
      exec (.coldResetEnd rate true lk) s = .next (afterEvent { occur 15 10 (occur 10 255
        { s with
          inReset := false, rateCode := rate, cfgsrc := true, lk := lk
          lanes := s.lanes.set 0 { state := .faulted, pointer := 0, access := none } }) with
        link := .closed, loadOutcome := .failed, failureCode := 10, loadPhase := none
        loadBuffer := [], bootRead := none, cache := none }))

/-! ## The receiver -/

/-- A received byte in each receiver state: in HUNTING (R141), the two LEN bytes with LEN judged at the second
(R142), the body, and CHECK with a good frame offered to the inbound buffer (R143, R147). -/
def Obligations.ReceiverTakesBytes : Prop :=
  (∀ (b : Byte) (lk : LkLevels) (s : State), s.inReset = false → s.receiver.state = .hunting →
     exec (.receiveByte b lk) s = .next (afterEvent
       (if b = 0xA9 then
         { s with
           lk := lk
           receiver := { state := .length, huntFlag := false, lenBytes := [], body := [], sum := 0,
                         gapTimer := true, lineTimer := false } }
       else if s.receiver.huntFlag = true then { s with lk := lk }
       else occur 14 0x10
         { s with lk := lk, receiver := { s.receiver with huntFlag := true } }))) ∧
  ∀ (b : Byte) (lk : LkLevels) (s : State), s.inReset = false →
    (s.receiver.state = .length → s.receiver.lenBytes = [] →
      exec (.receiveByte b lk) s = .next (afterEvent { s with
        lk := lk
        receiver := { s.receiver with
          lenBytes := [b], sum := s.receiver.sum + b, gapTimer := true } })) ∧
    (∀ first : Byte, s.receiver.state = .length → s.receiver.lenBytes = [first] →
      2 ≤ first.toNat + 256 * b.toNat → first.toNat + 256 * b.toNat ≤ 302 →
      exec (.receiveByte b lk) s = .next (afterEvent { s with
        lk := lk
        receiver := { s.receiver with
          state := .body, lenBytes := [first, b], sum := s.receiver.sum + b,
          gapTimer := true } })) ∧
    (∀ first : Byte, s.receiver.state = .length → s.receiver.lenBytes = [first] →
      first.toNat + 256 * b.toNat < 2 ∨ 302 < first.toNat + 256 * b.toNat →
      exec (.receiveByte b lk) s = .next (afterEvent
        (occur 14 0x02 { s with lk := lk, receiver := Receiver.newHunt }))) ∧
    (∀ first second : Byte, s.receiver.state = .body → s.receiver.lenBytes = [first, second] →
      exec (.receiveByte b lk) s = .next (afterEvent { s with
        lk := lk
        receiver := { s.receiver with
          state := if first.toNat + 256 * second.toNat ≤ s.receiver.body.length + 1 then .check
            else .body
          body := s.receiver.body ++ [b], sum := s.receiver.sum + b, gapTimer := true } })) ∧
    (∀ (seq kind : Byte) (payload : List Byte), s.receiver.state = .check →
      s.receiver.body = seq :: kind :: payload → s.receiver.sum + b = 0 → s.inbound.length < 2 →
      exec (.receiveByte b lk) s = .next (afterEvent { s with
        lk := lk, receiver := Receiver.newHunt
        inbound := s.inbound ++ [{ seq := seq, kind := kind, payload := payload }] })) ∧
    (s.receiver.state = .check → s.receiver.sum + b = 0 → 2 ≤ s.inbound.length →
      exec (.receiveByte b lk) s = .next (afterEvent
        (occur 14 0x04 { s with lk := lk, receiver := Receiver.newHunt }))) ∧
    (s.receiver.state = .check → s.receiver.sum + b ≠ 0 →
      exec (.receiveByte b lk) s = .next (afterEvent
        (occur 14 0x01 { s with lk := lk, receiver := Receiver.newHunt })))

/-- The bytes of a frame, received one after another by a hunting receiver, offer exactly that frame
to the inbound buffer (R139–R143, R147). -/
def Obligations.WireBytesOfferTheFrame : Prop :=
  ∀ (f : Frame) (lk : LkLevels) (s : State), f.payload.length ≤ 300 → s.inReset = false →
    s.receiver.state = .hunting → Settled s → AlertLaw s →
    runCommands (f.wire.map fun b => .receiveByte b lk) s =
      .next (afterEvent (offerFrame f { s with lk := lk, receiver := Receiver.newHunt }))

/-- The gap timer (R144), the fall of HRX into LINE_LOW and its rise (R145). -/
def Obligations.ReceiverTimersAndLine : Prop :=
  ∀ s : State, s.inReset = false →
    exec .startBit s = .next (afterEvent
      { s with receiver := { s.receiver with gapTimer := false } }) ∧
    (s.receiver.gapTimer = true →
      exec .gapTimeout s = .next (afterEvent
        (occur 14 0x08 { s with receiver := Receiver.newHunt }))) ∧
    (s.receiver.state ≠ .lineLow →
      exec .lineLow s = .next (afterEvent { s with
        receiver :=
          { state := .lineLow
            huntFlag := decide (s.receiver.state = .hunting) && s.receiver.huntFlag
            lenBytes := [], body := [], sum := 0, gapTimer := false, lineTimer := true } })) ∧
    (s.receiver.state = .lineLow → s.receiver.lineTimer = false →
      exec .hrxRise s = .next (afterEvent { s with receiver := Receiver.newHunt })) ∧
    (s.receiver.state = .lineLow → s.receiver.lineTimer = true →
      exec .hrxRise s = .next (afterEvent
        (if s.receiver.huntFlag = true then
          { s with receiver := { Receiver.newHunt with huntFlag := true } }
        else occur 14 0x10 { s with receiver := { Receiver.newHunt with huntFlag := true } })))

/-- A break in LINE_LOW (R156): a link reset that empties the inbound buffer, in CLOSED and OPEN;
ignored in LOADING, but for the receiver. -/
def Obligations.BreakResetsTheLink : Prop :=
  ∀ s : State, s.inReset = false → s.receiver.state = .lineLow → s.receiver.lineTimer = true →
    (s.link ≠ .loading →
      exec .lineBreak s = .next (afterEvent
        { linkReset { s with receiver := { s.receiver with lineTimer := false } } with
          inbound := [] })) ∧
    (s.link = .loading →
      exec .lineBreak s = .next (afterEvent
        { s with receiver := { s.receiver with lineTimer := false } }))

/-- The link reset of every block (R157, R23, R46, R70, R94, R116, R137): each slot by its state; the
counts of the QUEUED and PAUSED slots freed, with the drains that they complete and their E8 occurrences,
which alone change a source or the notice queue; what is emptied and set; nothing else. Where the counts
are those of the live slots, a DRAINING window without an orphan left closes and one with an orphan stays
DRAINING. -/
def Obligations.LinkResetOfEveryBlock : Prop :=
  ∀ s : State,
    let t := linkReset s
    t = { s with
      slots := t.slots, windows := t.windows, sources := t.sources, notices := t.notices
      queues := Vector.replicate 8 [], delivery := [], discards := [], link := .closed
      replies := [], cache := none, snapshot := none, credits := 0, holdTime := 50
      lastServed := .notice } ∧
    (∀ tag : Tag, t.slots[tag.val] =
      match s.slots[tag.val].state with
      | .queued | .paused | .done => Slot.freed
      | .active => { s.slots[tag.val] with state := .orphaned }
      | .orphaned | .free => s.slots[tag.val]) ∧
    CountsFall (fun i => s.slots.toList.countP fun sl =>
      (sl.state == .queued || sl.state == .paused) && sl.window == i) s t ∧
    (CountLaw s → ∀ i : WinIx, s.windows[i.val].state = .draining →
      ((∀ tag : Tag, s.slots[tag.val].window = i →
          s.slots[tag.val].state ≠ .active ∧ s.slots[tag.val].state ≠ .orphaned) →
        t.windows[i.val].state = .closed) ∧
      ((∃ tag : Tag, s.slots[tag.val].window = i ∧
          (s.slots[tag.val].state = .active ∨ s.slots[tag.val].state = .orphaned)) →
        t.windows[i.val].state = .draining))

/-! ## The transmitter -/

/-- What a free transmitter chooses when a frame has been sent (R110–R113, R99, R125): a reply first; else, in
OPEN with a credit, a completion or a notice, in turn when both wait. A reply chosen from a full reply
queue makes room for the dispatch of the request that waits (R148). -/
def Obligations.FrameSentMakesTheNextChoice : Prop :=
  (∀ (lk : LkLevels) (s : State), s.inReset = false → s.inbound = [] →
     (∀ (f : Frame) (rest : List Frame), s.replies = f :: rest →
       exec (.frameSent lk) s = .next (driveAlert { s with
         lk := lk, replies := rest, sending := some f.wire })) ∧
     (s.replies = [] → s.link ≠ .opened ∨ s.credits = 0 ∨ unsolicitedWaits s = false →
       exec (.frameSent lk) s = .next (driveAlert { s with lk := lk, sending := none })) ∧
     (∀ tag : Tag, s.replies = [] → s.link = .opened → 0 < s.credits → offered s = some tag →
       s.notices = [] ∨ s.lastServed = .notice →
       exec (.frameSent lk) s = .next (driveAlert { s with
         lk := lk
         slots := s.slots.set tag.val Slot.freed
         delivery := s.delivery.filter (· != tag)
         credits := s.credits - 1, outSeq := s.outSeq + 1, lastServed := .completion
         sending := some (Frame.wire
           { seq := s.outSeq, kind := 0x40, payload := s.slots[tag.val].completion tag }) })) ∧
     (∀ (e : SrcIx) (rest : List SrcIx), s.replies = [] → s.link = .opened → 0 < s.credits →
       s.notices = e :: rest → offered s = none ∨ s.lastServed = .completion →
       exec (.frameSent lk) s = .next (driveAlert { s with
         lk := lk
         sources := s.sources.set e.val
           (match s.sources[e.val].mode with
           | .onDelivery => { s.sources[e.val] with state := .idle, count := 0, detail := 0 }
           | .onAck =>
             { s.sources[e.val] with state := .reported, reported := s.sources[e.val].count })
         notices := rest
         credits := s.credits - 1, outSeq := s.outSeq + 1, lastServed := .notice
         sending := some (Frame.wire
           { seq := s.outSeq, kind := 0x41
             payload := [byteOf e.val, byteOf s.sources[e.val].count] ++
               le32 s.sources[e.val].detail }) }))) ∧
  ∀ (f g h : Frame) (r : Reply) (u : State) (lk : LkLevels) (s : State), s.inReset = false →
    s.replies = [f, g] → s.inbound = [h] → cachedReply h s = none →
    answer h { s with lk := lk, replies := [g], sending := some f.wire, inbound := [] } = (u, r) →
    exec (.frameSent lk) s = .next (driveAlert (choose { u with
      replies := u.replies ++ [replyFrame h r]
      cache := if entersCache h r then
          some { seq := h.seq, kind := h.kind, reply := replyFrame h r }
        else u.cache }))

/-- What a formed reply leaves (R110, R111, R150–R152): it is sent at once by a free transmitter and
queued behind a sending one; the cache takes it, but for an executed CLOSE; nothing else changes but
ALERTn. -/
def Obligations.AnsweredRequestLeaves : Prop :=
  ∀ (f : Frame) (r : Reply) (s : State),
    (s.sending = none → s.replies = [] →
      answeredWith f r s = driveAlert { s with
        sending := some (replyFrame f r).wire
        cache := if f.kind = 0x03 ∧ r.status = .ok then s.cache
          else some { seq := f.seq, kind := f.kind, reply := replyFrame f r } }) ∧
    (s.sending ≠ none →
      answeredWith f r s = driveAlert { s with
        replies := s.replies ++ [replyFrame f r]
        cache := if f.kind = 0x03 ∧ r.status = .ok then s.cache
          else some { seq := f.seq, kind := f.kind, reply := replyFrame f r } }) ∧
    (∀ k : Request, f.kind = k.code →
      replyFrame f r =
        { seq := f.seq, kind := f.kind + 0x80, payload := r.status.code :: r.fields }) ∧
    (requestOf f.kind = none →
      replyFrame f r = { seq := f.seq, kind := 0xFF, payload := r.status.code :: r.fields })

/-! ## Dispatch -/

/-- A request turned away before its block sees it (R149 steps 2 and 3, R153, R167): by the link
state, then by a payload of another length than its kind's. -/
def Obligations.RequestRefusedBeforeItsBlock : Prop :=
  ∀ (r : Request) (seq : Byte) (payload : List Byte) (lk : LkLevels) (s : State),
    payload.length ≤ 300 → ReadyFor (requestFrame r seq payload) s →
    (s.link = .loading →
      exec (r.command seq payload lk) s = .next (answeredWith (requestFrame r seq payload)
        (Reply.refusal .loading) { s with lk := r.lkFound lk s.lk })) ∧
    (s.link = .closed → r ≠ .identify → r ≠ .openSession → r ≠ .closeSession →
      exec (r.command seq payload lk) s = .next (answeredWith (requestFrame r seq payload)
        (Reply.refusal .notOpen) { s with lk := r.lkFound lk s.lk })) ∧
    (s.link = .closed → r = .closeSession →
      exec (r.command seq payload lk) s = .next (answeredWith (requestFrame r seq payload)
        (Reply.refusal .wrongState) s)) ∧
    (s.link = .opened → r = .openSession →
      exec (r.command seq payload lk) s = .next (answeredWith (requestFrame r seq payload)
        (Reply.refusal .wrongState) s)) ∧
    (∀ n : Nat, (s.link = .opened ∧ r ≠ .openSession) ∨
        (s.link = .closed ∧ (r = .identify ∨ r = .openSession)) →
      r.payloadLength = some n → payload.length ≠ n →
      exec (r.command seq payload lk) s = .next (answeredWith (requestFrame r seq payload)
        (Reply.refusal .badLength) { s with lk := r.lkFound lk s.lk }))

/-- A frame whose KIND is no request kind is answered UNKNOWN_KIND in a reply of KIND 0xFF, in every
link state and whatever its payload (R149 step 1, R150, R173). -/
def Obligations.UnknownKindIsAnswered : Prop :=
  ∀ (seq kind : Byte) (payload : List Byte) (s : State), payload.length ≤ 300 →
    kind ∉ requestKinds → ReadyFor { seq := seq, kind := kind, payload := payload } s →
    exec (.unknownKind seq kind payload) s = .next (driveAlert (choose { s with
      replies := s.replies ++ [{ seq := seq, kind := 0xFF, payload := [17] }]
      cache := some
        { seq := seq, kind := kind
          reply := { seq := seq, kind := 0xFF, payload := [17] } } }))

/-- A frame whose SEQ and KIND are those of the reply cache is answered with a copy of the cached reply;
no block sees it and its payload is not compared (R152). -/
def Obligations.CacheReplaysTheReply : Prop :=
  ∀ (seq kind : Byte) (payload : List Byte) (reply : Frame) (s : State), payload.length ≤ 300 →
    s.inReset = false → s.inbound = [] → s.replies.length < 2 → TransmitterSettled s →
    s.cache = some { seq := seq, kind := kind, reply := reply } →
    exec (.cacheReplay seq kind payload) s =
      .next (driveAlert (choose { s with replies := s.replies ++ [reply] })) ∧
    ∀ (r : Request) (lk : LkLevels), r.code = kind →
      exec (r.command seq payload lk) s = .next (driveAlert (choose
        { s with lk := r.lkFound lk s.lk, replies := s.replies ++ [reply] }))

/-- A request that finds two replies waiting joins the inbound buffer behind the frames there; one
that finds two frames in it is lost with an OVERRUN error (R147, R148). -/
def Obligations.RequestWaitsOrOverruns : Prop :=
  ∀ (r : Request) (seq : Byte) (payload : List Byte) (lk : LkLevels) (s : State),
    payload.length ≤ 300 → s.inReset = false →
    (s.inbound.length < 2 → 2 ≤ s.replies.length → s.sending ≠ none →
      exec (r.command seq payload lk) s = .next (driveAlert { s with
        lk := r.lkFound lk s.lk, inbound := s.inbound ++ [requestFrame r seq payload] })) ∧
    (2 ≤ s.inbound.length →
      exec (r.command seq payload lk) s = .next (afterEvent
        (occur 14 0x04 { s with lk := r.lkFound lk s.lk })))

/-! ## The session -/

/-- IDENTIFY in CLOSED and OPEN (R159): the fourteen bytes after the status. -/
def Obligations.IdentifyReportsThePart : Prop :=
  ∀ (seq : Byte) (s : State), ReadyFor (requestFrame .identify seq []) s → s.link ≠ .loading →
    exec (.identify seq []) s = .next (answeredWith (requestFrame .identify seq [])
      (Reply.okWith [0x42, 0x4C, 0x18, 0x24, 1, 16, 8, 4, 32, 0, 1, byteOf s.rateCode.toNat,
        match s.loadOutcome with
        | .notAttempted => 0
        | .loaded => 1
        | .failed => 2,
        byteOf s.failureCode]) s)

/-- OPEN in CLOSED (R154). -/
def Obligations.OpenBeginsASession : Prop :=
  ∀ (seq hold : Byte) (s : State), ReadyFor (requestFrame .openSession seq [hold]) s →
    s.link = .closed → s.session ≤ 255 →
    exec (.openSession seq [hold]) s = .next (answeredWith (requestFrame .openSession seq [hold])
      (Reply.okWith [byteOf (if s.session = 255 then 1 else s.session + 1)])
      { s with
        session := if s.session = 255 then 1 else s.session + 1
        holdTime := hold.toNat, outSeq := 0, link := .opened })

/-- CLOSE in OPEN (R155): the link reset, which keeps the inbound buffer, then the reply, alone in the
reply queue and not cached. -/
def Obligations.CloseResetsTheLink : Prop :=
  ∀ (seq : Byte) (s : State), ReadyFor (requestFrame .closeSession seq []) s →
    s.link = .opened →
    exec (.closeSession seq []) s = .next (driveAlert (choose { linkReset s with
      replies := [{ seq := seq, kind := 0x83, payload := [0] }], cache := none }))

/-- CREDIT in each link state, with each length and value (R109). -/
def Obligations.CreditRaisesTheCounter : Prop :=
  ∀ (seq : Byte) (payload : List Byte) (s : State), payload.length ≤ 300 →
    ReadyFor (requestFrame .credit seq payload) s →
    (s.link = .loading →
      exec (.credit seq payload) s = .next (answeredWith (requestFrame .credit seq payload)
        (Reply.refusal .loading) s)) ∧
    (s.link = .closed →
      exec (.credit seq payload) s = .next (answeredWith (requestFrame .credit seq payload)
        (Reply.refusal .notOpen) s)) ∧
    (s.link = .opened → payload.length ≠ 1 →
      exec (.credit seq payload) s = .next (answeredWith (requestFrame .credit seq payload)
        (Reply.refusal .badLength) s)) ∧
    (∀ n : Byte, s.link = .opened → payload = [n] → 31 < n.toNat →
      exec (.credit seq payload) s = .next (answeredWith (requestFrame .credit seq payload)
        (Reply.refusal .badArg) s)) ∧
    (∀ n : Byte, s.link = .opened → payload = [n] → n.toNat ≤ 31 →
      exec (.credit seq payload) s = .next (answeredWith (requestFrame .credit seq payload)
        (Reply.okWith [byteOf (min (s.credits + n.toNat) 31)])
        { s with credits := min (s.credits + n.toNat) 31 }))

/-! ## Windows -/

/-- WIN_SET of a FREE or CLOSED window with fields in range (R11): the window takes the six values and
is CLOSED. -/
def Obligations.WinSetDefinesTheWindow : Prop :=
  ∀ (seq rights : Byte) (i : WinIx) (n : Target) (base limit offset : Addr) (payload : List Byte)
    (s : State),
    payload = [byteOf i.val, byteOf n.val, rights] ++ le32 base ++ le32 limit ++ le32 offset →
    ReadyFor (requestFrame .winSet seq payload) s → s.link = .opened →
    s.windows[i.val].state = .free ∨ s.windows[i.val].state = .closed →
    1 ≤ rights.toNat → rights.toNat ≤ 7 → base.toNat % 1024 = 0 → (limit.toNat + 1) % 1024 = 0 →
    base.toNat ≤ limit.toNat → offset.toNat % 1024 = 0 →
    exec (.winSet seq payload) s = .next (answeredWith (requestFrame .winSet seq payload) Reply.ok
      { s with
        windows := s.windows.set i.val
          { state := .closed, base := base, limit := limit, offset := offset, target := n
            rights :=
              { read := rights.getLsbD 0, write := rights.getLsbD 1, command := rights.getLsbD 2 }
            outstanding := 0 } })

/-- WIN_OPEN of a CLOSED window whose target's profile is SET, that fits and overlaps no OPEN window
(R12, R8, R9); WIN_CLOSE of an OPEN window, CLOSED with no live slot, else DRAINING (R13). -/
def Obligations.WinOpenAndWinClose : Prop :=
  (∀ (seq : Byte) (i : WinIx) (p : Profile) (s : State),
     ReadyFor (requestFrame .winOpen seq [byteOf i.val]) s → s.link = .opened →
     s.windows[i.val].state = .closed →
     s.profiles[(s.windows[i.val].target).val] = some p →
     s.windows[i.val].offset.toNat +
         (s.windows[i.val].limit.toNat - s.windows[i.val].base.toNat) < 2 ^ (8 * p.addressBytes) →
     (∀ j : WinIx, j ≠ i → s.windows[j.val].state = .opened →
       s.windows[j.val].limit.toNat < s.windows[i.val].base.toNat ∨
         s.windows[i.val].limit.toNat < s.windows[j.val].base.toNat) →
     exec (.winOpen seq [byteOf i.val]) s =
       .next (answeredWith (requestFrame .winOpen seq [byteOf i.val]) Reply.ok
         { s with
           windows := s.windows.set i.val
             { s.windows[i.val] with state := .opened, outstanding := 0 } })) ∧
  ∀ (seq : Byte) (i : WinIx) (s : State),
    ReadyFor (requestFrame .winClose seq [byteOf i.val]) s → s.link = .opened →
    s.windows[i.val].state = .opened →
    (s.windows[i.val].outstanding = 0 →
      exec (.winClose seq [byteOf i.val]) s =
        .next (answeredWith (requestFrame .winClose seq [byteOf i.val]) (Reply.okWith [1, 0])
          { s with windows := s.windows.set i.val { s.windows[i.val] with state := .closed } })) ∧
    (s.windows[i.val].outstanding ≠ 0 →
      exec (.winClose seq [byteOf i.val]) s =
        .next (answeredWith (requestFrame .winClose seq [byteOf i.val])
          (Reply.okWith [3, byteOf s.windows[i.val].outstanding])
          { s with
            windows := s.windows.set i.val { s.windows[i.val] with state := .draining } }))

/-- WIN_FREE in every window state (R14). -/
def Obligations.WinFreeReleasesTheWindow : Prop :=
  ∀ (seq : Byte) (i : WinIx) (s : State),
    ReadyFor (requestFrame .winFree seq [byteOf i.val]) s → s.link = .opened →
    (s.windows[i.val].state = .closed →
      exec (.winFree seq [byteOf i.val]) s =
        .next (answeredWith (requestFrame .winFree seq [byteOf i.val]) Reply.ok
          { s with
            windows := s.windows.set i.val
              { state := .free, base := 0, limit := 0, offset := 0, target := 0
                rights := { read := false, write := false, command := false }
                outstanding := 0 } })) ∧
    (s.windows[i.val].state = .opened ∨ s.windows[i.val].state = .draining →
      exec (.winFree seq [byteOf i.val]) s =
        .next (answeredWith (requestFrame .winFree seq [byteOf i.val]) (Reply.refusal .busy) s)) ∧
    (s.windows[i.val].state = .free →
      exec (.winFree seq [byteOf i.val]) s =
        .next (answeredWith (requestFrame .winFree seq [byteOf i.val]) Reply.ok s))

/-- WIN_QUERY (R15): one record, the sixteen pairs of state and count, or BAD_ARG. -/
def Obligations.WinQueryReadsTheTable : Prop :=
  ∀ (seq : Byte) (s : State), s.link = .opened →
    (∀ i : WinIx, ReadyFor (requestFrame .winQuery seq [byteOf i.val]) s →
      exec (.winQuery seq [byteOf i.val]) s =
        .next (answeredWith (requestFrame .winQuery seq [byteOf i.val])
          (Reply.okWith ([byteOf i.val, s.windows[i.val].state.code,
            byteOf s.windows[i.val].target.val, s.windows[i.val].rights.code] ++
            le32 s.windows[i.val].base ++ le32 s.windows[i.val].limit ++
            le32 s.windows[i.val].offset ++ [byteOf s.windows[i.val].outstanding])) s)) ∧
    (ReadyFor (requestFrame .winQuery seq [255]) s →
      exec (.winQuery seq [255]) s =
        .next (answeredWith (requestFrame .winQuery seq [255])
          (Reply.okWith ((List.finRange 16).flatMap fun i : WinIx =>
            [s.windows[i.val].state.code, byteOf s.windows[i.val].outstanding])) s)) ∧
    (∀ b : Byte, 16 ≤ b.toNat → b ≠ 255 → ReadyFor (requestFrame .winQuery seq [b]) s →
      exec (.winQuery seq [b]) s =
        .next (answeredWith (requestFrame .winQuery seq [b]) (Reply.refusal .badArg) s))

/-- The refusals of WIN_SET, WIN_OPEN and WIN_CLOSE, in the order of their checks (R10–R13). -/
def Obligations.WindowRequestsAreRefused : Prop :=
  ∀ (seq : Byte) (s : State), s.link = .opened →
    (∀ (k : Request) (b : Byte) (rest : List Byte) (lk : LkLevels), 16 ≤ b.toNat →
      (k = .winSet ∧ rest.length = 14) ∨
        ((k = .winOpen ∨ k = .winClose ∨ k = .winFree) ∧ rest = []) →
      ReadyFor (requestFrame k seq (b :: rest)) s →
      exec (k.command seq (b :: rest) lk) s =
        .next (answeredWith (requestFrame k seq (b :: rest)) (Reply.refusal .badArg) s)) ∧
    (∀ (i : WinIx) (rest : List Byte), rest.length = 14 →
      s.windows[i.val].state = .opened ∨ s.windows[i.val].state = .draining →
      ReadyFor (requestFrame .winSet seq (byteOf i.val :: rest)) s →
      exec (.winSet seq (byteOf i.val :: rest)) s =
        .next (answeredWith (requestFrame .winSet seq (byteOf i.val :: rest))
          (Reply.refusal .busy) s)) ∧
    (∀ (i : WinIx) (n rights : Byte) (base limit offset : Addr) (payload : List Byte),
      payload = [byteOf i.val, n, rights] ++ le32 base ++ le32 limit ++ le32 offset →
      s.windows[i.val].state = .free ∨ s.windows[i.val].state = .closed →
      8 ≤ n.toNat ∨ rights.toNat = 0 ∨ 7 < rights.toNat ∨ base.toNat % 1024 ≠ 0 ∨
        (limit.toNat + 1) % 1024 ≠ 0 ∨ limit.toNat < base.toNat ∨ offset.toNat % 1024 ≠ 0 →
      ReadyFor (requestFrame .winSet seq payload) s →
      exec (.winSet seq payload) s =
        .next (answeredWith (requestFrame .winSet seq payload) (Reply.refusal .badArg) s)) ∧
    (∀ i : WinIx, ReadyFor (requestFrame .winOpen seq [byteOf i.val]) s →
      (s.windows[i.val].state = .free ∨ s.windows[i.val].state = .opened →
        exec (.winOpen seq [byteOf i.val]) s =
          .next (answeredWith (requestFrame .winOpen seq [byteOf i.val])
            (Reply.refusal .wrongState) s)) ∧
      (s.windows[i.val].state = .draining →
        exec (.winOpen seq [byteOf i.val]) s =
          .next (answeredWith (requestFrame .winOpen seq [byteOf i.val])
            (Reply.refusal .busy) s)) ∧
      (s.windows[i.val].state = .closed → s.profiles[(s.windows[i.val].target).val] = none →
        exec (.winOpen seq [byteOf i.val]) s =
          .next (answeredWith (requestFrame .winOpen seq [byteOf i.val])
            (Reply.refusal .noProfile) s)) ∧
      (∀ p : Profile, s.windows[i.val].state = .closed →
        s.profiles[(s.windows[i.val].target).val] = some p →
        2 ^ (8 * p.addressBytes) ≤ s.windows[i.val].offset.toNat +
          (s.windows[i.val].limit.toNat - s.windows[i.val].base.toNat) →
        exec (.winOpen seq [byteOf i.val]) s =
          .next (answeredWith (requestFrame .winOpen seq [byteOf i.val])
            (Reply.refusal .range) s)) ∧
      (∀ (p : Profile) (j : WinIx), s.windows[i.val].state = .closed →
        s.profiles[(s.windows[i.val].target).val] = some p →
        s.windows[i.val].offset.toNat +
          (s.windows[i.val].limit.toNat - s.windows[i.val].base.toNat) < 2 ^ (8 * p.addressBytes) →
        j ≠ i → s.windows[j.val].state = .opened →
        s.windows[i.val].base.toNat ≤ s.windows[j.val].limit.toNat →
        s.windows[j.val].base.toNat ≤ s.windows[i.val].limit.toNat →
        exec (.winOpen seq [byteOf i.val]) s =
          .next (answeredWith (requestFrame .winOpen seq [byteOf i.val])
            (Reply.refusal .overlap) s))) ∧
    (∀ i : WinIx, s.windows[i.val].state ≠ .opened →
      ReadyFor (requestFrame .winClose seq [byteOf i.val]) s →
      exec (.winClose seq [byteOf i.val]) s =
        .next (answeredWith (requestFrame .winClose seq [byteOf i.val])
          (Reply.refusal .wrongState) s))

/-! ## Profiles -/

/-- PROF_SET (R26–R28, R45): of an unlocked target, the record, and E(n) and the filter of its pin; refused by
index, lock and fields, in that order. A pin that becomes or stays a ready input has its filter at the
pin's level (DESIGN CHOICE, log 10). -/
def Obligations.ProfSetWritesTheProfile : Prop :=
  (∀ (seq : Byte) (n : Target) (p : Profile) (s : State), p.inRange = true →
     ReadyFor (requestFrame .profSet seq (byteOf n.val :: p.bytes)) s → s.link = .opened →
     (∀ i : WinIx, s.windows[i.val].state = .opened ∨ s.windows[i.val].state = .draining →
       s.windows[i.val].target ≠ n) →
     (∀ tag : Tag, s.slots[tag.val].live = true → s.slots[tag.val].target ≠ n) →
     (p.readyMethod = .readyLine →
       exec (.profSet seq (byteOf n.val :: p.bytes)) s =
         .next (answeredWith (requestFrame .profSet seq (byteOf n.val :: p.bytes)) Reply.ok
           { s with
             profiles := s.profiles.set n.val (some p)
             filters := s.filters.set n.val (if s.rdy[n.val] then .high else .low)
             sources := s.sources.set n.val
               { enabled := false, mode := s.sources[n.val].mode, state := .idle, count := 0
                 reported := 0, detail := 0 }
             notices := s.notices.filter fun e => e.val != n.val })) ∧
     (p.readyMethod ≠ .readyLine →
       exec (.profSet seq (byteOf n.val :: p.bytes)) s =
         .next (answeredWith (requestFrame .profSet seq (byteOf n.val :: p.bytes)) Reply.ok
           { s with
             profiles := s.profiles.set n.val (some p)
             filters := s.filters.set n.val
               (if readyMethodAt n s = .readyLine ∨ filterTimeAt n s ≠ p.attnFilter then
                 (if s.rdy[n.val] then .high else .low)
               else s.filters[n.val]) }))) ∧
  ∀ (seq b : Byte) (rest : List Byte) (s : State), rest.length = 14 → s.link = .opened →
    ReadyFor (requestFrame .profSet seq (b :: rest)) s →
    (8 ≤ b.toNat →
      exec (.profSet seq (b :: rest)) s =
        .next (answeredWith (requestFrame .profSet seq (b :: rest)) (Reply.refusal .badArg) s)) ∧
    (∀ n : Target, b = byteOf n.val →
      (∃ i : WinIx, (s.windows[i.val].state = .opened ∨ s.windows[i.val].state = .draining) ∧
        s.windows[i.val].target = n) ∨
        (∃ tag : Tag, s.slots[tag.val].live = true ∧ s.slots[tag.val].target = n) →
      exec (.profSet seq (b :: rest)) s =
        .next (answeredWith (requestFrame .profSet seq (b :: rest)) (Reply.refusal .busy) s)) ∧
    (∀ n : Target, b = byteOf n.val →
      (∀ i : WinIx, s.windows[i.val].state = .opened ∨ s.windows[i.val].state = .draining →
        s.windows[i.val].target ≠ n) →
      (∀ tag : Tag, s.slots[tag.val].live = true → s.slots[tag.val].target ≠ n) →
      (∀ p : Profile, p.inRange = true → p.bytes ≠ rest) →
      exec (.profSet seq (b :: rest)) s =
        .next (answeredWith (requestFrame .profSet seq (b :: rest)) (Reply.refusal .badArg) s))

/-- PROF_QUERY (R29). -/
def Obligations.ProfQueryReadsTheProfile : Prop :=
  ∀ (seq : Byte) (s : State), s.link = .opened →
    (∀ (n : Target) (p : Profile), s.profiles[n.val] = some p →
      ReadyFor (requestFrame .profQuery seq [byteOf n.val]) s →
      exec (.profQuery seq [byteOf n.val]) s =
        .next (answeredWith (requestFrame .profQuery seq [byteOf n.val])
          (Reply.okWith ([byteOf n.val, 1] ++ p.bytes ++
            [if p.readyMethod = .readyLine then 1 else 0, if s.rdy[n.val] then 1 else 0])) s)) ∧
    (∀ n : Target, s.profiles[n.val] = none →
      ReadyFor (requestFrame .profQuery seq [byteOf n.val]) s →
      exec (.profQuery seq [byteOf n.val]) s =
        .next (answeredWith (requestFrame .profQuery seq [byteOf n.val])
          (Reply.okWith ([byteOf n.val, 0] ++ List.replicate 14 0 ++
            [0, if s.rdy[n.val] then 1 else 0])) s)) ∧
    (ReadyFor (requestFrame .profQuery seq [255]) s →
      exec (.profQuery seq [255]) s =
        .next (answeredWith (requestFrame .profQuery seq [255])
          (Reply.okWith ((List.finRange 8).flatMap fun n : Target =>
            match s.profiles[n.val] with
            | none => [0, 0]
            | some p => [1, p.readyMethod.code])) s)) ∧
    (∀ b : Byte, 8 ≤ b.toNat → b ≠ 255 → ReadyFor (requestFrame .profQuery seq [b]) s →
      exec (.profQuery seq [b]) s =
        .next (answeredWith (requestFrame .profQuery seq [b]) (Reply.refusal .badArg) s))

/-- The fourteen bytes of a profile and its fields determine each other (R24, R25): the record of a
profile in range passes the field checks and reads back as that profile, and a record that passes
them is the record of the profile it reads as. -/
def Obligations.ProfileBytesRoundTrip : Prop :=
  (∀ (n : Target) (p : Profile), p.inRange = true →
    profileBadAt (byteOf n.val :: p.bytes) = none ∧ profileOf (byteOf n.val :: p.bytes) = p) ∧
  ∀ (b : Byte) (rest : List Byte), rest.length = 14 → profileBadAt (b :: rest) = none →
    (profileOf (b :: rest)).bytes = rest ∧ (profileOf (b :: rest)).inRange = true

/-! ## Transactions -/

/-- SUBMIT of a READ or a WRITE that passes the eight checks (R51, R54, R4, R7, R40): the slot is filled
and queued, the window counts it, and its lane arbitrates. -/
def Obligations.SubmitOfDataIsAccepted : Prop :=
  ∀ (seq : Byte) (tag : Tag) (pullOnly : Bool) (address : Addr) (i : WinIx) (lk : LkLevels)
    (s : State), OverlapLaw s → s.link = .opened → s.slots[tag.val].state = .free →
    s.windows[i.val].state = .opened → s.windows[i.val].base.toNat ≤ address.toNat →
    s.queues[(s.windows[i.val].target).val].length < 16 →
    (∀ (n : Nat) (payload : List Byte), 1 ≤ n → n ≤ 256 →
      address.toNat + n - 1 ≤ s.windows[i.val].limit.toNat → s.windows[i.val].rights.read = true →
      payload = [byteOf tag.val, 0, boolByte pullOnly] ++ le32 address ++ le16 n →
      ReadyFor (requestFrame .submit seq payload) s →
      exec (.submit seq payload lk) s = .next (answeredWith (requestFrame .submit seq payload)
        Reply.ok (arbitrate (laneOf s.windows[i.val].target)
          { s with
            lk := lk
            discards := s.discards.filter (· != tag)
            slots := s.slots.set tag.val
              { Slot.freed with
                state := .queued, kind := .read, pullOnly := pullOnly, window := i
                target := s.windows[i.val].target
                address := s.windows[i.val].offset.toNat +
                  (address.toNat - s.windows[i.val].base.toNat)
                length := n, piecesTotal := 1, nextPiece := 1 }
            queues := s.queues.set (s.windows[i.val].target).val
              (s.queues[(s.windows[i.val].target).val] ++ [tag])
            windows := s.windows.set i.val
              { s.windows[i.val] with outstanding := s.windows[i.val].outstanding + 1 } }))) ∧
    (∀ data payload : List Byte, 1 ≤ data.length → data.length ≤ 256 →
      address.toNat + data.length - 1 ≤ s.windows[i.val].limit.toNat →
      s.windows[i.val].rights.write = true →
      payload =
        [byteOf tag.val, 1, boolByte pullOnly] ++ le32 address ++ le16 data.length ++ data →
      ReadyFor (requestFrame .submit seq payload) s →
      exec (.submit seq payload lk) s = .next (answeredWith (requestFrame .submit seq payload)
        Reply.ok (arbitrate (laneOf s.windows[i.val].target)
          { s with
            lk := lk
            discards := s.discards.filter (· != tag)
            slots := s.slots.set tag.val
              { Slot.freed with
                state := .queued, kind := .write, pullOnly := pullOnly, window := i
                target := s.windows[i.val].target
                address := s.windows[i.val].offset.toNat +
                  (address.toNat - s.windows[i.val].base.toNat)
                length := data.length, writeData := data
                piecesTotal := pieceCount (pageCodeAt s.windows[i.val].target s)
                  (s.windows[i.val].offset.toNat +
                    (address.toNat - s.windows[i.val].base.toNat)) data.length
                nextPiece := 1 }
            queues := s.queues.set (s.windows[i.val].target).val
              (s.queues[(s.windows[i.val].target).val] ++ [tag])
            windows := s.windows.set i.val
              { s.windows[i.val] with outstanding := s.windows[i.val].outstanding + 1 } })))

/-- SUBMIT of a COMMAND that passes the eight checks (R51, R54, R5, R6). -/
def Obligations.SubmitOfCommandIsAccepted : Prop :=
  ∀ (seq opcode : Byte) (tag : Tag) (pullOnly usesAddress preamble : Bool) (address : Addr)
    (part payload : List Byte) (readPart : Nat) (i : WinIx) (lk : LkLevels) (s : State),
    OverlapLaw s → s.link = .opened → s.slots[tag.val].state = .free →
    s.windows[i.val].state = .opened → s.windows[i.val].base.toNat ≤ address.toNat →
    address.toNat ≤ s.windows[i.val].limit.toNat → s.windows[i.val].rights.command = true →
    part = [] ∨ s.windows[i.val].rights.write = true →
    s.queues[(s.windows[i.val].target).val].length < 16 → part.length ≤ 16 → readPart ≤ 16 →
    payload = [byteOf tag.val, 2, boolByte pullOnly] ++ le32 address ++
      [opcode, boolByte usesAddress, boolByte preamble, byteOf part.length, byteOf readPart] ++
      part →
    ReadyFor (requestFrame .submit seq payload) s →
    exec (.submit seq payload lk) s = .next (answeredWith (requestFrame .submit seq payload)
      Reply.ok (arbitrate (laneOf s.windows[i.val].target)
        { s with
          lk := lk
          discards := s.discards.filter (· != tag)
          slots := s.slots.set tag.val
            { Slot.freed with
              state := .queued, kind := .command, pullOnly := pullOnly, window := i
              target := s.windows[i.val].target
              address := s.windows[i.val].offset.toNat +
                (address.toNat - s.windows[i.val].base.toNat)
              opcode := opcode, usesAddress := usesAddress, preamble := preamble
              writePart := part, readPartLength := readPart
              piecesTotal := 1, nextPiece := 1 }
          queues := s.queues.set (s.windows[i.val].target).val
            (s.queues[(s.windows[i.val].target).val] ++ [tag])
          windows := s.windows.set i.val
            { s.windows[i.val] with outstanding := s.windows[i.val].outstanding + 1 } }))

/-- The refusals of SUBMIT in OPEN (R51–R53, R5, R6, R164): the payload without tag and kind; check 2 on each
field that lies within the payload, the two flags of a COMMAND among them; check 3 on the lengths of each
kind; checks 4 to 8 in order, for every payload of a READ, a WRITE or a COMMAND that passes the first
three. -/
def Obligations.SubmitIsRefused : Prop :=
  (∀ (seq : Byte) (payload : List Byte) (lk : LkLevels) (s : State), payload.length ≤ 300 →
     s.link = .opened → ReadyFor (requestFrame .submit seq payload) s →
     let refused := fun st : Status =>
       exec (.submit seq payload lk) s = .next (answeredWith (requestFrame .submit seq payload)
         (Reply.refusal st) { s with lk := lk })
     let field := fun k : Nat => (byteAt payload k).toNat
     let beyond := fun k top : Nat => k < payload.length ∧ top < field k
     let badField := beyond 0 31 ∨ beyond 1 2 ∨ beyond 2 1 ∨
       (field 1 = 2 ∧ (beyond 8 1 ∨ beyond 9 1))
     let length := field 7 + 256 * field 8
     let badLength :=
       (field 1 = 0 ∧ (payload.length ≠ 9 ∨ length = 0 ∨ 256 < length)) ∨
       (field 1 = 1 ∧
         (payload.length < 9 ∨ length = 0 ∨ 256 < length ∨ payload.length ≠ 9 + length)) ∨
       (field 1 = 2 ∧
         (payload.length < 12 ∨ 16 < field 10 ∨ 16 < field 11 ∨ payload.length ≠ 12 + field 10))
     (payload.length < 2 → refused .badLength) ∧
     (2 ≤ payload.length → badField → refused .badArg) ∧
     (2 ≤ payload.length → ¬ badField → badLength → refused .badLength)) ∧
  ∀ (seq : Byte) (payload : List Byte) (tag : Tag) (address : Addr) (last : Nat) (need : Rights)
    (lk : LkLevels) (s : State), SubmitShape payload tag address last need → OverlapLaw s →
    s.link = .opened → ReadyFor (requestFrame .submit seq payload) s →
    let refused := fun st : Status =>
      exec (.submit seq payload lk) s = .next (answeredWith (requestFrame .submit seq payload)
        (Reply.refusal st) { s with lk := lk })
    (s.slots[tag.val].state ≠ .free → refused .tagInUse) ∧
    (s.slots[tag.val].state = .free →
      (∀ i : WinIx, s.windows[i.val].state = .opened →
        address.toNat < s.windows[i.val].base.toNat ∨
          s.windows[i.val].limit.toNat < address.toNat) →
      refused .noWindow) ∧
    (∀ i : WinIx, s.slots[tag.val].state = .free → s.windows[i.val].state = .opened →
      s.windows[i.val].base.toNat ≤ address.toNat →
      address.toNat ≤ s.windows[i.val].limit.toNat →
      (s.windows[i.val].limit.toNat < last → refused .range) ∧
      (last ≤ s.windows[i.val].limit.toNat → s.windows[i.val].rights.lack need →
        refused .access) ∧
      (last ≤ s.windows[i.val].limit.toNat → ¬ s.windows[i.val].rights.lack need →
        16 ≤ s.queues[(s.windows[i.val].target).val].length → refused .queueFull))

/-- COLLECT by the state of the slot (R100, R101). -/
def Obligations.CollectTakesTheResult : Prop :=
  ∀ (seq : Byte) (s : State), s.link = .opened →
    (∀ tag : Tag, ReadyFor (requestFrame .collect seq [byteOf tag.val]) s →
      (s.slots[tag.val].state = .done →
        exec (.collect seq [byteOf tag.val]) s =
          .next (answeredWith (requestFrame .collect seq [byteOf tag.val])
            (Reply.okWith ([byteOf tag.val, (s.slots[tag.val].status.getD .success).code,
              s.slots[tag.val].kind.code] ++ le16 s.slots[tag.val].progress ++
              s.slots[tag.val].result))
            { s with
              slots := s.slots.set tag.val Slot.freed
              delivery := s.delivery.filter (· != tag) })) ∧
      (s.slots[tag.val].state = .queued ∨ s.slots[tag.val].state = .paused ∨
          s.slots[tag.val].state = .active →
        exec (.collect seq [byteOf tag.val]) s =
          .next (answeredWith (requestFrame .collect seq [byteOf tag.val])
            (Reply.refusal .pending) s)) ∧
      (s.slots[tag.val].state = .free → tag ∈ s.discards →
        exec (.collect seq [byteOf tag.val]) s =
          .next (answeredWith (requestFrame .collect seq [byteOf tag.val])
            (Reply.refusal .discarded) s)) ∧
      (s.slots[tag.val].state = .free ∧ tag ∉ s.discards ∨ s.slots[tag.val].state = .orphaned →
        exec (.collect seq [byteOf tag.val]) s =
          .next (answeredWith (requestFrame .collect seq [byteOf tag.val])
            (Reply.refusal .unknownTag) s))) ∧
    (∀ b : Byte, 32 ≤ b.toNat → ReadyFor (requestFrame .collect seq [b]) s →
      exec (.collect seq [b]) s =
        .next (answeredWith (requestFrame .collect seq [b]) (Reply.refusal .badArg) s))

/-- ABORT by the state of the slot (R65). -/
def Obligations.AbortEndsATransaction : Prop :=
  ∀ (seq : Byte) (lk : LkLevels) (s : State), s.link = .opened →
    (∀ tag : Tag, ReadyFor (requestFrame .abort seq [byteOf tag.val]) s →
      let answered := fun (r : Reply) (u : State) =>
        exec (.abort seq [byteOf tag.val] lk) s =
          .next (answeredWith (requestFrame .abort seq [byteOf tag.val]) r u)
      (s.slots[tag.val].state = .queued ∨ s.slots[tag.val].state = .paused →
        answered Reply.ok (arbitrate (laneOf s.slots[tag.val].target)
          (enterDone tag .aborted { s with lk := lk }))) ∧
      (s.slots[tag.val].state = .active → s.slots[tag.val].flushRequested = false →
        answered Reply.ok
          { s with
            lk := lk
            slots := s.slots.set tag.val { s.slots[tag.val] with abortRequested := true } }) ∧
      (s.slots[tag.val].state = .active → s.slots[tag.val].flushRequested = true →
        answered Reply.ok { s with lk := lk }) ∧
      (s.slots[tag.val].state = .done → answered (Reply.refusal .tooLate) { s with lk := lk }) ∧
      (s.slots[tag.val].state = .free → tag ∈ s.discards →
        answered (Reply.refusal .discarded) { s with lk := lk }) ∧
      (s.slots[tag.val].state = .free ∧ tag ∉ s.discards ∨ s.slots[tag.val].state = .orphaned →
        answered (Reply.refusal .unknownTag) { s with lk := lk })) ∧
    (∀ b : Byte, 32 ≤ b.toNat → ReadyFor (requestFrame .abort seq [b]) s →
      exec (.abort seq [b] lk) s =
        .next (answeredWith (requestFrame .abort seq [b]) (Reply.refusal .badArg)
          { s with lk := lk }))

/-- SLOT_QUERY and LANE_QUERY read without changing anything (R68, R93). -/
def Obligations.SlotAndLaneQueriesRead : Prop :=
  ∀ (seq : Byte) (lk : LkLevels) (s : State), s.link = .opened →
    (∀ tag : Tag, ReadyFor (requestFrame .slotQuery seq [byteOf tag.val]) s →
      exec (.slotQuery seq [byteOf tag.val]) s =
        .next (answeredWith (requestFrame .slotQuery seq [byteOf tag.val])
          (Reply.okWith ([byteOf tag.val, s.slots[tag.val].state.code, s.slots[tag.val].kind.code,
            s.slots[tag.val].phase.code] ++ le16 s.slots[tag.val].progress ++
            [byteOf s.slots[tag.val].retryCount])) s)) ∧
    (ReadyFor (requestFrame .slotQuery seq [255]) s →
      exec (.slotQuery seq [255]) s =
        .next (answeredWith (requestFrame .slotQuery seq [255])
          (Reply.okWith ((List.finRange 32).map fun tag : Tag => s.slots[tag.val].state.code))
          s)) ∧
    (∀ b : Byte, 32 ≤ b.toNat → b ≠ 255 → ReadyFor (requestFrame .slotQuery seq [b]) s →
      exec (.slotQuery seq [b]) s =
        .next (answeredWith (requestFrame .slotQuery seq [b]) (Reply.refusal .badArg) s)) ∧
    (∀ l : LaneIx, ReadyFor (requestFrame .laneQuery seq [byteOf l.val]) s →
      exec (.laneQuery seq [byteOf l.val] lk) s =
        .next (answeredWith (requestFrame .laneQuery seq [byteOf l.val])
          (Reply.okWith [byteOf l.val, s.lanes[l.val].state.code, if lk[l.val] then 1 else 0,
            byteOf s.queues[(targetAt l 0).val].length,
            byteOf s.queues[(targetAt l 1).val].length,
            match s.lanes[l.val].access.bind Access.tag with
            | some tag => byteOf tag.val
            | none => 255]) { s with lk := lk })) ∧
    (ReadyFor (requestFrame .laneQuery seq [255]) s →
      exec (.laneQuery seq [255] lk) s =
        .next (answeredWith (requestFrame .laneQuery seq [255])
          (Reply.okWith ((List.finRange 4).flatMap fun l : LaneIx =>
            [byteOf l.val, s.lanes[l.val].state.code, if lk[l.val] then 1 else 0,
              byteOf s.queues[(targetAt l 0).val].length,
              byteOf s.queues[(targetAt l 1).val].length,
              match s.lanes[l.val].access.bind Access.tag with
              | some tag => byteOf tag.val
              | none => 255])) { s with lk := lk })) ∧
    (∀ b : Byte, 4 ≤ b.toNat → b ≠ 255 → ReadyFor (requestFrame .laneQuery seq [b]) s →
      exec (.laneQuery seq [b] lk) s =
        .next (answeredWith (requestFrame .laneQuery seq [b]) (Reply.refusal .badArg)
          { s with lk := lk }))

/-! ## Lanes -/

/-- LANE_RESUME (R88, R89): the checks find the levels `lk`, the grant after it the levels `lkGrant`, which
fault the lane again where LKn has been asserted (log 3; `GrantActsOnTheHead` says how). -/
def Obligations.LaneResumeClearsAFault : Prop :=
  ∀ (seq : Byte) (lk lkGrant : LkLevels) (s : State), s.link = .opened → GrantLevelsLaw s →
    (∀ l : LaneIx, ReadyFor (requestFrame .laneResume seq [byteOf l.val]) s →
      let answered := fun (r : Reply) (u : State) =>
        exec (.laneResume seq [byteOf l.val] lk lkGrant) s =
          .next (answeredWith (requestFrame .laneResume seq [byteOf l.val]) r u)
      (s.lanes[l.val].state ≠ .faulted → answered (Reply.refusal .wrongState) { s with lk := lk }) ∧
      (s.lanes[l.val].state = .faulted → lk[l.val] = false →
        answered (Reply.refusal .busy) { s with lk := lk }) ∧
      (s.lanes[l.val].state = .faulted → lk[l.val] = true →
        answered Reply.ok (arbitrate l
          { s with
            lk := lkGrant
            lanes := s.lanes.set l.val { s.lanes[l.val] with state := .idle } }))) ∧
    (∀ b : Byte, 4 ≤ b.toNat → ReadyFor (requestFrame .laneResume seq [b]) s →
      exec (.laneResume seq [b] lk lkGrant) s =
        .next (answeredWith (requestFrame .laneResume seq [b]) (Reply.refusal .badArg)
          { s with lk := lk }))

/-- LANE_RESET (R88, R90, R67, R64): every QUEUED and PAUSED slot of the lane's two queues ends FLUSHED,
select 0 first and in queue order, and leaves its queue and its window's count, with the drains that this
completes; an ACTIVE one keeps its place and is flagged unless a flag stands; the lane, the reply, and
nothing else. A lane index outside 0–3 is answered BAD_ARG. -/
def Obligations.LaneResetFlushesTheLane : Prop :=
  (∀ (seq : Byte) (l : LaneIx) (lk : LkLevels) (s : State), s.link = .opened → QueueLaw s →
     ReadyFor (requestFrame .laneReset seq [byteOf l.val]) s →
     let waits := fun sl : Slot => sl.state == .queued || sl.state == .paused
     let flushed := (s.queues[(targetAt l 0).val] ++ s.queues[(targetAt l 1).val]).filter
       fun tag => waits s.slots[tag.val]
     let state : LaneState :=
       match s.lanes[l.val].state with
       | .idle | .faulted => .idle
       | .busy | .resetting => .resetting
     ∃ u : State,
       exec (.laneReset seq [byteOf l.val] lk) s =
         .next (answeredWith (requestFrame .laneReset seq [byteOf l.val])
           (Reply.okWith [match state with | .idle => 0 | _ => 3, byteOf flushed.length])
           (arbitrate l u)) ∧
       u = { s with
         slots := u.slots, queues := u.queues, windows := u.windows, sources := u.sources
         notices := u.notices
         delivery := s.delivery ++ flushed
         lanes := s.lanes.set l.val { s.lanes[l.val] with state := state }
         lk := lk } ∧
       (∀ tag : Tag, u.slots[tag.val] =
         if laneOf s.slots[tag.val].target = l then
           match s.slots[tag.val].state with
           | .queued | .paused =>
             { s.slots[tag.val] with
               state := .done, status := some .flushed, abortRequested := false
               flushRequested := false, retryTimer := none
               holdTimer := if s.holdTime = 0 then none else some s.holdTime }
           | .active =>
             if s.slots[tag.val].abortRequested then s.slots[tag.val]
             else { s.slots[tag.val] with flushRequested := true }
           | .done | .free | .orphaned => s.slots[tag.val]
         else s.slots[tag.val]) ∧
       (∀ n : Target, u.queues[n.val] =
         if laneOf n = l then
           s.queues[n.val].filter fun tag => s.slots[tag.val].state == .active
         else s.queues[n.val]) ∧
       CountsFall (fun i => s.slots.toList.countP fun sl =>
         waits sl && laneOf sl.target == l && sl.window == i) s u) ∧
  ∀ (seq b : Byte) (lk : LkLevels) (s : State), s.link = .opened → 4 ≤ b.toNat →
    ReadyFor (requestFrame .laneReset seq [b]) s →
    exec (.laneReset seq [b] lk) s =
      .next (answeredWith (requestFrame .laneReset seq [b]) (Reply.refusal .badArg)
        { s with lk := lk })

/-- The way of a slot into DONE (R64, R16, R18): the slot, its queue, the delivery queue, and the fall
of its window's count, which completes a drain at zero. The slot's other fields stay as they are (the
write data: DEDUCED, log 16). -/
def Obligations.EnteringDoneSettlesTheSlot : Prop :=
  ∀ (tag : Tag) (status : CompStatus) (s : State),
    let sl := s.slots[tag.val]
    let w := s.windows[(s.slots[tag.val].window).val]
    let done : State :=
      { s with
        slots := s.slots.set tag.val
          { sl with
            state := .done, status := some status, abortRequested := false
            flushRequested := false, retryTimer := none
            holdTimer := if s.holdTime = 0 then none else some s.holdTime }
        queues := s.queues.set sl.target.val (s.queues[sl.target.val].filter (· != tag))
        delivery := s.delivery ++ [tag] }
    (w.state = .draining → w.outstanding = 1 →
      enterDone tag status s = occur 8 (BitVec.ofNat 32 (2 ^ sl.window.val))
        { done with
          windows := s.windows.set sl.window.val
            { w with state := .closed, outstanding := 0 } }) ∧
    (w.state ≠ .draining ∨ w.outstanding ≠ 1 →
      enterDone tag status s = { done with
        windows := s.windows.set sl.window.val { w with outstanding := w.outstanding - 1 } })

/-! ## Events -/

/-- An occurrence at each state of its source (R120, R122): what becomes of the record and the notice
queue, and that nothing else changes. -/
def Obligations.OccurrenceReachesItsSource : Prop :=
  ∀ (e : SrcIx) (value : BitVec 32) (s : State),
    let src := s.sources[e.val]
    let detail : BitVec 32 → BitVec 32 := fun held =>
      if e.val < 8 then 0
      else if e.val = 8 ∨ e.val = 9 ∨ e.val = 14 then held ||| value else value
    (src.enabled = false → occur e value s = s) ∧
    (src.enabled = true → src.state = .idle →
      occur e value s = { s with
        sources := s.sources.set e.val
          { src with state := .queued, count := 1, detail := detail 0 }
        notices := s.notices ++ [e] }) ∧
    (src.enabled = true → src.state ≠ .idle →
      occur e value s = { s with
        sources := s.sources.set e.val
          { src with count := min (src.count + 1) 255, detail := detail src.detail } })

/-- EVT_SET (R132, R133) and EVT_ACK, the surplus re-queued or the source at rest (R130). -/
def Obligations.EvtSetAndEvtAck : Prop :=
  (∀ (seq on mode : Byte) (s : State), s.link = .opened →
     (∀ b : Byte, 16 ≤ b.toNat ∨ 1 < on.toNat ∨ 1 < mode.toNat →
       ReadyFor (requestFrame .evtSet seq [b, on, mode]) s →
       exec (.evtSet seq [b, on, mode]) s =
         .next (answeredWith (requestFrame .evtSet seq [b, on, mode])
           (Reply.refusal .badArg) s)) ∧
     (∀ e : SrcIx, mode.toNat ≤ 1 →
       ReadyFor (requestFrame .evtSet seq [byteOf e.val, on, mode]) s →
       let answered := fun (r : Reply) (u : State) =>
         exec (.evtSet seq [byteOf e.val, on, mode]) s =
           .next (answeredWith (requestFrame .evtSet seq [byteOf e.val, on, mode]) r u)
       (on = 0 → answered Reply.ok
         { s with
           sources := s.sources.set e.val
             { enabled := false, mode := if mode = 0 then .onDelivery else .onAck, state := .idle
               count := 0, reported := 0, detail := 0 }
           notices := s.notices.filter (· != e) }) ∧
       (on = 1 → s.sources[e.val].state ≠ .idle → answered (Reply.refusal .busy) s) ∧
       (∀ n : Target, on = 1 → s.sources[e.val].state = .idle → n.val = e.val →
         readyMethodAt n s = .readyLine → answered (Reply.refusal .wrongState) s) ∧
       (on = 1 → s.sources[e.val].state = .idle →
         (∀ n : Target, n.val = e.val → readyMethodAt n s ≠ .readyLine) →
         answered Reply.ok
           { s with
             sources := s.sources.set e.val
               { enabled := true, mode := if mode = 0 then .onDelivery else .onAck, state := .idle
                 count := 0, reported := 0, detail := 0 } }))) ∧
  ∀ (seq : Byte) (s : State), s.link = .opened →
    (∀ e : SrcIx, ReadyFor (requestFrame .evtAck seq [byteOf e.val]) s →
      let src := s.sources[e.val]
      let answered := fun (r : Reply) (u : State) =>
        exec (.evtAck seq [byteOf e.val]) s =
          .next (answeredWith (requestFrame .evtAck seq [byteOf e.val]) r u)
      (src.state = .reported → src.reported < src.count →
        answered (Reply.okWith [1, byteOf (src.count - src.reported)])
          { s with
            sources := s.sources.set e.val
              { src with state := .queued, count := src.count - src.reported, reported := 0 }
            notices := s.notices ++ [e] }) ∧
      (src.state = .reported → src.count ≤ src.reported →
        answered (Reply.okWith [0, 0])
          { s with
            sources := s.sources.set e.val
              { src with state := .idle, count := 0, reported := 0, detail := 0 } }) ∧
      (src.state ≠ .reported → answered (Reply.refusal .wrongState) s)) ∧
    (∀ b : Byte, 16 ≤ b.toNat → ReadyFor (requestFrame .evtAck seq [b]) s →
      exec (.evtAck seq [b]) s =
        .next (answeredWith (requestFrame .evtAck seq [b]) (Reply.refusal .badArg) s))

/-- EVT_QUERY (R135): sixteen records of nine bytes, then the notice queue. -/
def Obligations.EvtQueryReadsTheSources : Prop :=
  ∀ (seq : Byte) (s : State), ReadyFor (requestFrame .evtQuery seq []) s → s.link = .opened →
    ∃ fields : List Byte,
      exec (.evtQuery seq []) s =
        .next (answeredWith (requestFrame .evtQuery seq []) (Reply.okWith fields) s) ∧
      fields = ((List.finRange 16).flatMap fun e : SrcIx =>
          [if s.sources[e.val].enabled then 1 else 0, s.sources[e.val].mode.code,
            s.sources[e.val].state.code, byteOf s.sources[e.val].count,
            byteOf s.sources[e.val].reported] ++ le32 s.sources[e.val].detail) ++
        byteOf s.notices.length :: s.notices.map (fun e => byteOf e.val) ∧
      fields.length = 145 + s.notices.length

/-- CFG_IMAGE (R188): the length, the snapshot held, the range; at offset 0 a new snapshot. What a snapshot
holds (R187, R21, R25, R178): its size; the header; the record of each SET profile, in target order; the
record of each window not FREE, in window order, its load-state 1 for OPEN alone; the trailer. -/
def Obligations.CfgImageExportsTheTables : Prop :=
  (∀ (seq : Byte) (offset n : Nat) (payload : List Byte) (s : State),
     offset < 65536 → n < 65536 → payload = le16 offset ++ le16 n →
     ReadyFor (requestFrame .cfgImage seq payload) s → s.link = .opened →
     let answered := fun (r : Reply) (u : State) =>
       exec (.cfgImage seq payload) s =
         .next (answeredWith (requestFrame .cfgImage seq payload) r u)
     (n = 0 ∨ 256 < n → answered (Reply.refusal .badArg) s) ∧
     (1 ≤ n → n ≤ 256 → offset = 0 →
       ((buildSnapshot s).length < n → answered (Reply.refusal .range) s) ∧
       (n ≤ (buildSnapshot s).length →
         answered (Reply.okWith (le16 (buildSnapshot s).length ++ (buildSnapshot s).take n))
           { s with snapshot := some (buildSnapshot s) })) ∧
     (1 ≤ n → n ≤ 256 → offset ≠ 0 → s.snapshot = none →
       answered (Reply.refusal .wrongState) s) ∧
     (∀ img : List Byte, 1 ≤ n → n ≤ 256 → offset ≠ 0 → s.snapshot = some img →
       (img.length < offset + n → answered (Reply.refusal .range) s) ∧
       (offset + n ≤ img.length →
         answered (Reply.okWith (le16 img.length ++ (img.drop offset).take n)) s))) ∧
  ∀ s : State,
    let img := buildSnapshot s
    let set := fun n : Target => (s.profiles[n.val]).isSome
    let used := fun i : WinIx => s.windows[i.val].state != .free
    let p := (List.finRange 8).countP set
    let w := (List.finRange 16).countP used
    img.length = 7 + 15 * p + 16 * w ∧
    img.take 5 = [0x4F, 0x43, 1, byteOf p, byteOf w] ∧
    (∀ (n : Target) (r : Profile), s.profiles[n.val] = some r →
      let k := (List.finRange 8).countP fun m => set m && m < n
      (img.drop (5 + 15 * k)).take 15 = byteOf n.val :: r.bytes) ∧
    (∀ i : WinIx, s.windows[i.val].state ≠ .free →
      let k := (List.finRange 16).countP fun j => used j && j < i
      let x := s.windows[i.val]
      (img.drop (5 + 15 * p + 16 * k)).take 16 =
        [byteOf i.val, if x.state = .opened then 1 else 0,
          (if x.rights.read then 1 else 0) + (if x.rights.write then 2 else 0) +
            (if x.rights.command then 4 else 0),
          byteOf x.target.val] ++ le32 x.base ++ le32 x.limit ++ le32 x.offset) ∧
    img.drop (img.length - 2) =
      le16 (((img.take (img.length - 2)).map BitVec.toNat).sum % 65536)

/-! ## Grants -/

/-- A lane's arbitration (R78–R81, R55): nothing on a lane that is not IDLE or has no eligible head; LKn
found low faults the lane; else the head at the select that alone is eligible, or that the pointer
names, starts its data access or its status poll and the pointer takes the other select. A waiting boot
read is such a head at select 0 of L0 (R83). What a data access puts on the lane (R33–R38, R40): the
select periods of a READ, a WRITE piece and a COMMAND, phase by phase, and the address, most significant
byte first. -/
def Obligations.GrantActsOnTheHead : Prop :=
  (∀ (l : LaneIx) (s : State), s.lanes[l.val].state ≠ .idle → arbitrate l s = s) ∧
  (∀ (r : BootRead) (s : State), s.bootRead = some r → s.lanes[0].state = .idle →
    s.lanes[0].pointer = 0 ∨ (∀ (x : Tag) (more : List Tag),
      s.queues[1] = x :: more → s.slots[x.val].state ≠ .queued) →
    (s.lk[0] = true →
      arbitrate 0 s = { s with
        lanes := s.lanes.set 0
          { state := .busy, pointer := 1
            access := some
              { tag := none, accessType := .bootRead, select := 0, divider := 23
                periods :=
                  [[.drive 1 (0x03 :: addressBytes 3 r.address), .dummy 1 0,
                    .sample 1 r.count]] } } }) ∧
    (s.lk[0] = false →
      arbitrate 0 s =
        { occur 15 (BitVec.ofNat 32 (10 + 256 * r.address)) (occur 10 255
            { s with lanes := s.lanes.set 0 { s.lanes[0] with state := .faulted } }) with
          loadOutcome := .failed, failureCode := 10, loadPhase := none, loadBuffer := []
          bootRead := none, link := .closed, cache := none })) ∧
  (∀ (l : LaneIx) (s : State), l ≠ 0 ∨ s.bootRead = none →
    ((∀ (sel : Fin 2) (tag : Tag) (rest : List Tag),
      s.queues[(targetAt l sel).val] = tag :: rest → s.slots[tag.val].state ≠ .queued) →
      arbitrate l s = s) ∧
    ∀ (sel : Fin 2) (tag : Tag) (rest : List Tag), s.lanes[l.val].state = .idle →
      s.queues[(targetAt l sel).val] = tag :: rest → s.slots[tag.val].state = .queued →
      s.lanes[l.val].pointer = sel ∨
        (∀ (x : Tag) (more : List Tag), s.queues[(targetAt l (otherSelect sel)).val] = x :: more →
          s.slots[x.val].state ≠ .queued) →
      let sl := s.slots[tag.val]
      (s.lk[l.val] = false →
        arbitrate l s = occur ⟨10 + l.val, by omega⟩ 255
          { s with lanes := s.lanes.set l.val { s.lanes[l.val] with state := .faulted } }) ∧
      (∀ p : Profile, s.lk[l.val] = true → s.profiles[(targetAt l sel).val] = some p →
        (sl.phase = .data ∨ (sl.phase = .precheck ∧
          (p.readyMethod = .none ∨
            (p.readyMethod = .readyLine ∧ s.rdy[(targetAt l sel).val] = true))) →
          arbitrate l s = { s with
            slots := s.slots.set tag.val { sl with state := .active, phase := .data }
            lanes := s.lanes.set l.val
              { state := .busy, pointer := otherSelect sel
                access := some (dataAccess sel tag p sl) } }) ∧
        (sl.phase ≠ .data → p.readyMethod = .statusPoll →
          arbitrate l s = { s with
            slots := s.slots.set tag.val { sl with state := .active }
            lanes := s.lanes.set l.val
              { state := .busy, pointer := otherSelect sel
                access := some
                  { tag := some tag, accessType := .statusPoll, select := sel
                    divider := p.divider
                    periods := [[.drive 1 [p.statusOpcode], .sample 1 1]] } } }))) ∧
  (∀ (sel : Fin 2) (tag : Tag) (p : Profile) (sl : Slot),
    let access := fun (type : AccessType) (periods : List (List BusPhase)) =>
      dataAccess sel tag p sl =
        { tag := some tag, accessType := type, select := sel, divider := p.divider
          periods := periods }
    let preamble := if p.writePreamble = 0 then [] else [[BusPhase.drive 1 [p.writePreamble]]]
    let next := sl.address + sl.progress
    let rest := sl.length - sl.progress
    (sl.kind = .read →
      access .read
        [[.drive 1 (p.readOpcode :: addressBytes p.addressBytes sl.address),
          .dummy p.dataLines p.readDummy, .sample p.dataLines sl.length]]) ∧
    (sl.kind = .write →
      access .writePiece (preamble ++
        [[.drive 1 (p.writeOpcode :: addressBytes p.addressBytes next),
          .drive p.dataLines ((sl.writeData.drop sl.progress).take
            (if p.pageCode = 0 then rest
              else min rest (2 ^ (p.pageCode + 3) - next % 2 ^ (p.pageCode + 3))))]])) ∧
    (sl.kind = .command →
      access .command ((if sl.preamble then preamble else []) ++
        [[.drive 1 (sl.opcode ::
            if sl.usesAddress then addressBytes p.addressBytes sl.address else []),
          .drive p.dataLines sl.writePart, .sample p.dataLines sl.readPartLength]]))) ∧
  ∀ count address : Nat, address < 256 ^ count →
    (addressBytes count address).length = count ∧
      (addressBytes count address).foldl (fun value b => 256 * value + b.toNat) 0 = address

/-- A grant without an access (R55, R56, R81): a busy READY_LINE sample pauses the head or ends it
TIMEOUT past the retry limit; in POSTCHECK a ready sample, or the ready method NONE with no sample, ends
it SUCCESS; and the IDLE lane arbitrates again. -/
def Obligations.SampleGrantArbitratesAgain : Prop :=
  ∀ (l : LaneIx) (sel : Fin 2) (tag : Tag) (rest : List Tag) (p : Profile) (s : State),
    ProfileLaw s → s.bootRead = none → s.lanes[l.val].state = .idle → s.lk[l.val] = true →
    s.queues[(targetAt l sel).val] = tag :: rest → s.slots[tag.val].state = .queued →
    s.lanes[l.val].pointer = sel ∨
      (∀ (x : Tag) (more : List Tag), s.queues[(targetAt l (otherSelect sel)).val] = x :: more →
        s.slots[x.val].state ≠ .queued) →
    s.profiles[(targetAt l sel).val] = some p →
    let sl := s.slots[tag.val]
    let s' : State :=
      { s with lanes := s.lanes.set l.val { s.lanes[l.val] with pointer := otherSelect sel } }
    (sl.phase ≠ .data → p.readyMethod = .readyLine → s.rdy[(targetAt l sel).val] = false →
      (sl.retryCount + 1 ≤ p.retryLimit →
        arbitrate l s = arbitrate l { s' with
          slots := s.slots.set tag.val
            { sl with
              state := .paused, retryCount := sl.retryCount + 1
              retryTimer := some p.retryInterval } }) ∧
      (p.retryLimit < sl.retryCount + 1 →
        arbitrate l s = arbitrate l (enterDone tag .timeout { s' with
          slots := s.slots.set tag.val
            { sl with retryCount := min (sl.retryCount + 1) 255 } }))) ∧
    (sl.phase = .postcheck →
      p.readyMethod = .none ∨
        (p.readyMethod = .readyLine ∧ s.rdy[(targetAt l sel).val] = true) →
      arbitrate l s = arbitrate l (enterDone tag .success s'))

/-- The pieces of a WRITE (R40): each carries at least one byte, lies in one page, and after the number
of pieces computed at acceptance all the data is written, not before. -/
def Obligations.WritePiecesCoverTheData : Prop :=
  ∀ (code : Nat) (sl : Slot), sl.kind = .write → code ≤ 8 → 1 ≤ sl.length → sl.progress = 0 →
    (∀ k : Nat, k < pieceCount code sl.address sl.length →
      let part := (Slot.counted [] code)^[k] sl
      part.progress < sl.length ∧ 1 ≤ part.pieceLength code ∧
        (code ≠ 0 → (part.pieceAddress + part.pieceLength code - 1) / 2 ^ (code + 3) =
          part.pieceAddress / 2 ^ (code + 3))) ∧
    ((Slot.counted [] code)^[pieceCount code sl.address sl.length] sl).progress = sl.length

/-! ## Ends of an access -/

/-- The uncut end of a READ with neither flag set (R58), whatever bytes the target drove: bytes it did
not drive are free values (DESIGN CHOICE, log 6). -/
def Obligations.ReadEndsWithItsBytes : Prop :=
  ∀ (l : LaneIx) (tag : Tag) (a : Access) (p : Profile) (data : List Byte) (lk : LkLevels)
    (s : State), s.inReset = false → s.lanes[l.val].access = some a → a.tag = some tag →
    a.accessType = .read → s.slots[tag.val].state = .active → s.slots[tag.val].kind = .read →
    s.slots[tag.val].abortRequested = false → s.slots[tag.val].flushRequested = false →
    s.profiles[(s.slots[tag.val].target).val] = some p →
    exec (.accessEnd l data lk) s = .next (afterEvent (arbitrate l (laneIdle l
      (enterDone tag .success
        { s with
          lk := lk
          freeCount := s.freeCount + (a.bytesIn - data.length)
          slots := s.slots.set tag.val
            { s.slots[tag.val] with
              progress := s.slots[tag.val].length
              result := data.take a.bytesIn ++ (List.range (a.bytesIn - data.length)).map
                fun k => Config.undrivenByte (s.freeCount + k) } })))) ∧
    ∀ (sel : Fin 2) (sl : Slot), sl.kind = .read → (dataAccess sel tag p sl).bytesIn = sl.length

/-- The uncut end of a WRITE piece or a COMMAND with neither flag set (R59, R60). -/
def Obligations.WriteAndCommandEndsGoOn : Prop :=
  ∀ (l : LaneIx) (tag : Tag) (a : Access) (p : Profile) (data : List Byte) (lk : LkLevels)
    (s : State), s.inReset = false → s.lanes[l.val].access = some a → a.tag = some tag →
    s.slots[tag.val].state = .active →
    s.slots[tag.val].abortRequested = false → s.slots[tag.val].flushRequested = false →
    s.profiles[(s.slots[tag.val].target).val] = some p →
    let sl := s.slots[tag.val]
    let s' : State :=
      { s with lk := lk, freeCount := s.freeCount + (a.bytesIn - data.length) }
    let written : Slot :=
      { sl with progress := sl.progress + sl.pieceLength p.pageCode }
    let issued : Slot :=
      { sl with
        progress := 1
        result := data.take a.bytesIn ++ (List.range (a.bytesIn - data.length)).map
          fun k => Config.undrivenByte (s.freeCount + k) }
    let ends := fun u : State =>
      exec (.accessEnd l data lk) s = .next (afterEvent (arbitrate l (laneIdle l u)))
    (a.accessType = .writePiece → sl.kind = .write →
      (sl.nextPiece < sl.piecesTotal →
        ends { s' with
          slots := s.slots.set tag.val
            { written with
              nextPiece := sl.nextPiece + 1, phase := .precheck, state := .queued } }) ∧
      (sl.piecesTotal ≤ sl.nextPiece → p.readyMethod = .none →
        ends (enterDone tag .success
          { s' with slots := s.slots.set tag.val { written with phase := .postcheck } })) ∧
      (sl.piecesTotal ≤ sl.nextPiece → p.readyMethod ≠ .none →
        ends { s' with
          slots := s.slots.set tag.val
            { written with phase := .postcheck, state := .queued } })) ∧
    (a.accessType = .command → sl.kind = .command →
      (p.readyMethod = .none →
        ends (enterDone tag .success
          { s' with slots := s.slots.set tag.val { issued with phase := .postcheck } })) ∧
      (p.readyMethod ≠ .none →
        ends { s' with
          slots := s.slots.set tag.val
            { issued with phase := .postcheck, state := .queued } }))

/-- The uncut end of a status poll with neither flag set (R39, R55, R56). -/
def Obligations.PollEndGivesItsVerdict : Prop :=
  ∀ (l : LaneIx) (tag : Tag) (a : Access) (p : Profile) (data : List Byte) (lk : LkLevels)
    (s : State), s.inReset = false → s.lanes[l.val].access = some a → a.tag = some tag →
    a.accessType = .statusPoll → a.bytesIn = 1 → s.slots[tag.val].state = .active →
    s.slots[tag.val].abortRequested = false → s.slots[tag.val].flushRequested = false →
    s.profiles[(s.slots[tag.val].target).val] = some p →
    let sl := s.slots[tag.val]
    let status := data.headD (Config.undrivenByte s.freeCount)
    let s' : State := { s with lk := lk, freeCount := s.freeCount + (1 - data.length) }
    let ends := fun u : State =>
      exec (.accessEnd l data lk) s = .next (afterEvent (arbitrate l (laneIdle l u)))
    (status &&& p.busyMask ≠ 0 → sl.retryCount + 1 ≤ p.retryLimit →
      ends { s' with
        slots := s.slots.set tag.val
          { sl with
            state := .paused, retryCount := sl.retryCount + 1
            retryTimer := some p.retryInterval } }) ∧
    (status &&& p.busyMask ≠ 0 → p.retryLimit < sl.retryCount + 1 →
      ends (enterDone tag .timeout
        { s' with
          slots := s.slots.set tag.val
            { sl with retryCount := min (sl.retryCount + 1) 255 } })) ∧
    (status &&& p.busyMask = 0 → sl.phase = .precheck →
      ends { s' with
        slots := s.slots.set tag.val { sl with phase := .data, state := .queued } }) ∧
    (status &&& p.busyMask = 0 → sl.phase = .postcheck → ends (enterDone tag .success s'))

/-- The uncut end of an access under a request flag, which counts but goes no further, and of an
orphan's access, which frees the slot (R63, R71, R91); the lane is IDLE. What stays in the slot beside
its progress and result data is DEDUCED (log 9). -/
def Obligations.FlaggedAndOrphanedEnds : Prop :=
  ∀ (l : LaneIx) (tag : Tag) (a : Access) (data : List Byte) (lk : LkLevels) (s : State),
    s.inReset = false → s.lanes[l.val].access = some a → a.tag = some tag →
    let sl := s.slots[tag.val]
    let bytes := data.take a.bytesIn ++ (List.range (a.bytesIn - data.length)).map
      fun k => Config.undrivenByte (s.freeCount + k)
    let s' : State :=
      { s with lk := lk, freeCount := s.freeCount + (a.bytesIn - data.length) }
    let ends := fun u : State =>
      exec (.accessEnd l data lk) s = .next (afterEvent (arbitrate l (laneIdle l u)))
    (∀ (p : Profile) (status : CompStatus), sl.state = .active →
      s.profiles[sl.target.val] = some p →
      (sl.abortRequested = true ∧ status = .aborted) ∨
        (sl.abortRequested = false ∧ sl.flushRequested = true ∧ status = .flushed) →
      (a.accessType = .statusPoll → ends (enterDone tag status s')) ∧
      (a.accessType = .read → sl.kind = .read →
        ends (enterDone tag status
          { s' with
            slots := s.slots.set tag.val { sl with progress := sl.length, result := bytes } })) ∧
      (a.accessType = .writePiece → sl.kind = .write →
        ends (enterDone tag status
          { s' with
            slots := s.slots.set tag.val
              { sl with progress := sl.progress + sl.pieceLength p.pageCode } })) ∧
      (a.accessType = .command → sl.kind = .command →
        ends (enterDone tag status
          { s' with
            slots := s.slots.set tag.val { sl with progress := 1, result := bytes } }))) ∧
    (sl.state = .orphaned →
      ends (lowerCount sl.window { s' with slots := s.slots.set tag.val Slot.freed }))

/-- The end of a boot read (R179–R185): a header that fails ends the load, a good one leads to the first
body read; a body read leads to the next, to the failure the validation found, or to the image applied.
What the validation finds (R181, R182): the checks by code, 4 to 9, and within the first code that fails
the lowest byte offset; none where no check fails. -/
def Obligations.BootReadEndsTakeTheImage : Prop :=
  (∀ (a : Access) (data : List Byte) (lk : LkLevels) (s : State), s.inReset = false →
     s.lanes[0].access = some a → a.tag = none → data.length = a.bytesIn →
     let s' : State := { s with lk := lk }
     let img := s.loadBuffer ++ data
     let ends := fun u : State =>
       exec (.accessEnd 0 data lk) s = .next (afterEvent (arbitrate 0 (laneIdle 0 u)))
     let fails := fun code offset : Nat =>
       ends { occur 15 (BitVec.ofNat 32 (code + 256 * offset)) s' with
         loadOutcome := .failed, failureCode := code, loadPhase := none, loadBuffer := []
         bootRead := none, link := .closed, cache := none }
     (s.loadPhase = some .header →
       (byteAt data 0 ≠ 0x4F → fails 1 0) ∧
       (byteAt data 0 = 0x4F → byteAt data 1 ≠ 0x43 → fails 1 1) ∧
       (byteAt data 0 = 0x4F → byteAt data 1 = 0x43 → byteAt data 2 ≠ 1 → fails 2 2) ∧
       (byteAt data 0 = 0x4F → byteAt data 1 = 0x43 → byteAt data 2 = 1 →
         8 < (byteAt data 3).toNat → fails 3 3) ∧
       (byteAt data 0 = 0x4F → byteAt data 1 = 0x43 → byteAt data 2 = 1 →
         (byteAt data 3).toNat ≤ 8 → 16 < (byteAt data 4).toNat → fails 3 4) ∧
       (byteAt data 0 = 0x4F → byteAt data 1 = 0x43 → byteAt data 2 = 1 →
         (byteAt data 3).toNat ≤ 8 → (byteAt data 4).toNat ≤ 16 → data.length = 5 →
         ends { s' with
           loadPhase := some .body, loadBuffer := data
           bootRead := some
             { address := 5
               count := min 256
                 (2 + 15 * (byteAt data 3).toNat + 16 * (byteAt data 4).toNat) } })) ∧
     (s.loadPhase = some .body →
       (img.length < announcedSize img →
         ends { s' with
           loadBuffer := img
           bootRead := some
             { address := img.length, count := min 256 (announcedSize img - img.length) } }) ∧
       (∀ f : LoadFailure, announcedSize img ≤ img.length → imageFailure img = some f →
         fails f.code f.offset) ∧
       (announcedSize img ≤ img.length → imageFailure img = none → ends (applyImage img s')))) ∧
  ∀ img : List Byte,
    (∀ code offset : Nat, ImageFault img code offset →
      (∀ lower : Nat, lower < offset → ¬ ImageFault img code lower) →
      (∀ earlier any : Nat, earlier < code → ¬ ImageFault img earlier any) →
      imageFailure img = some { code := code, offset := offset }) ∧
    ((∀ code offset : Nat, ¬ ImageFault img code offset) → imageFailure img = none)

/-- A good image applied (R185): each record defines its profile or window, those of load-state 1 are
OPEN, the others of the tables keep what they held, and the load ends LOADED. -/
def Obligations.GoodImageIsApplied : Prop :=
  ∀ (img : List Byte) (s : State), imageFailure img = none →
    (∀ (r : ImageRecord) (i : WinIx) (n : Target), r ∈ windowRecords img →
      byteAt r.bytes 0 = byteOf i.val → byteAt r.bytes 3 = byteOf n.val →
      (applyImage img s).windows[i.val] =
        { state := if byteAt r.bytes 1 = 1 then .opened else .closed
          base := u32At r.bytes 4, limit := u32At r.bytes 8, offset := u32At r.bytes 12
          target := n, rights := rightsOf (byteAt r.bytes 2), outstanding := 0 }) ∧
    (∀ i : WinIx, (∀ r ∈ windowRecords img, byteAt r.bytes 0 ≠ byteOf i.val) →
      (applyImage img s).windows[i.val] = s.windows[i.val]) ∧
    (∀ (r : ImageRecord) (n : Target), r ∈ profileRecords img → byteAt r.bytes 0 = byteOf n.val →
      (applyImage img s).profiles[n.val] = some (profileOf r.bytes) ∧
      (applyImage img s).filters[n.val] = if s.rdy[n.val] then .high else .low) ∧
    (∀ n : Target, (∀ r ∈ profileRecords img, byteAt r.bytes 0 ≠ byteOf n.val) →
      (applyImage img s).profiles[n.val] = s.profiles[n.val] ∧
      (applyImage img s).filters[n.val] = s.filters[n.val]) ∧
    (applyImage img s).loadOutcome = .loaded ∧ (applyImage img s).failureCode = 0 ∧
    (applyImage img s).loadPhase = none ∧ (applyImage img s).loadBuffer = [] ∧
    (applyImage img s).bootRead = none ∧ (applyImage img s).link = .closed ∧
    (applyImage img s).cache = none ∧ (applyImage img s).slots = s.slots ∧
    (applyImage img s).queues = s.queues ∧ (applyImage img s).lanes = s.lanes ∧
    (applyImage img s).replies = s.replies ∧ (applyImage img s).inbound = s.inbound ∧
    ((∀ e : SrcIx, e.val < 8 → s.sources[e.val] = Source.resting false s.sources[e.val].mode ∧
        e ∉ s.notices) →
      (applyImage img s).sources = s.sources ∧ (applyImage img s).notices = s.notices)

/-- LKn asserted during an access cuts it (R84, R86, R91, R71, R183): a slot ends LANE_FAULT, an orphan is
freed, a load ends; the lane is FAULTED, or IDLE after RESETTING; with no access nothing is cut
(DEDUCED, log 7). -/
def Obligations.LaneFaultCutsTheAccess : Prop :=
  ∀ (l : LaneIx) (lk : LkLevels) (s : State), s.inReset = false →
    (s.lanes[l.val].access = none →
      exec (.laneFault l lk) s = .next (afterEvent { s with lk := lk })) ∧
    ∀ a : Access, s.lanes[l.val].access = some a →
      let s' : State :=
        { s with
          lk := lk
          lanes := s.lanes.set l.val
            { s.lanes[l.val] with
              state := if s.lanes[l.val].state = .resetting then .idle else .faulted
              access := none } }
      (∀ tag : Tag, a.tag = some tag → s.slots[tag.val].state = .active →
        exec (.laneFault l lk) s = .next (afterEvent (arbitrate l
          (occur ⟨10 + l.val, by omega⟩ (BitVec.ofNat 32 tag.val)
            (enterDone tag .laneFault s'))))) ∧
      (∀ tag : Tag, a.tag = some tag → s.slots[tag.val].state = .orphaned →
        exec (.laneFault l lk) s = .next (afterEvent (arbitrate l
          (occur ⟨10 + l.val, by omega⟩ (BitVec.ofNat 32 tag.val)
            (lowerCount s.slots[tag.val].window
              { s' with slots := s.slots.set tag.val Slot.freed }))))) ∧
      (∀ r : BootRead, a.tag = none → s.bootRead = some r → s.lanes[l.val].state = .busy →
        exec (.laneFault l lk) s = .next (afterEvent
          { occur 15 (BitVec.ofNat 32 (10 + 256 * r.address))
              (occur ⟨10 + l.val, by omega⟩ 255 s') with
            loadOutcome := .failed, failureCode := 10, loadPhase := none, loadBuffer := []
            bootRead := none, link := .closed, cache := none }))

/-! ## Timers and pins -/

/-- The retry timer of a PAUSED slot (R57), the hold timer of a DONE one (R104, R106, R107), the RDY/ATTN pins
and the attention filters (R43, R44). The expiry of a stopped hold timer changes nothing (DEDUCED, log 7),
the edges of a ready input leave its filter (DESIGN CHOICE, log 10), and the expiry of a filter time gives
its occurrence whenever the source was enabled (DESIGN CHOICE, log 20). -/
def Obligations.TimersAndPins : Prop :=
  (∀ (tag : Tag) (s : State), s.inReset = false →
     (∀ lk : LkLevels, s.slots[tag.val].state = .paused →
       exec (.retryExpiry tag lk) s = .next (afterEvent (arbitrate (laneOf s.slots[tag.val].target)
         { s with
           lk := lk
           slots := s.slots.set tag.val
             { s.slots[tag.val] with state := .queued, retryTimer := none } }))) ∧
     (s.slots[tag.val].state = .done → s.slots[tag.val].holdTimer ≠ none →
       exec (.holdExpiry tag) s = .next (afterEvent
         (occur 9 (BitVec.ofNat 32 (2 ^ tag.val))
           { s with
             slots := s.slots.set tag.val Slot.freed
             delivery := s.delivery.filter (· != tag)
             discards :=
               (if s.discards.length < 8 then s.discards else s.discards.tail) ++ [tag] }))) ∧
     (s.slots[tag.val].state = .done → s.slots[tag.val].holdTimer = none →
       exec (.holdExpiry tag) s = .next (afterEvent s))) ∧
  ∀ (n : Target) (s : State), s.inReset = false →
    (readyMethodAt n s = .readyLine →
      exec (.attnFall n) s = .next (afterEvent { s with rdy := s.rdy.set n.val false }) ∧
      exec (.attnRise n) s = .next (afterEvent { s with rdy := s.rdy.set n.val true })) ∧
    (readyMethodAt n s ≠ .readyLine →
      (s.filters[n.val] = .high → filterTimeAt n s = 0 →
        exec (.attnFall n) s = .next (afterEvent (occur ⟨n.val, by omega⟩ 0
          { s with rdy := s.rdy.set n.val false, filters := s.filters.set n.val .low }))) ∧
      (s.filters[n.val] = .high → filterTimeAt n s ≠ 0 →
        exec (.attnFall n) s = .next (afterEvent
          { s with rdy := s.rdy.set n.val false, filters := s.filters.set n.val .falling })) ∧
      exec (.attnRise n) s = .next (afterEvent
        { s with rdy := s.rdy.set n.val true, filters := s.filters.set n.val .high })) ∧
    (s.filters[n.val] = .falling →
      exec (.filterExpiry n) s = .next (afterEvent (occur ⟨n.val, by omega⟩ 0
        { s with filters := s.filters.set n.val .low })))

/-! ## Laws that every step keeps -/

/-- The state after reset meets every law below. -/
def Obligations.ResetMeetsTheLaws : Prop :=
  Settled State.reset ∧ AlertLaw State.reset ∧ Bounded State.reset ∧ LaneLaw State.reset ∧
    EventLaw State.reset ∧ ReadyLineLaw State.reset ∧ LoadLaw State.reset ∧
    OverlapLaw State.reset ∧ ProfileLaw State.reset ∧ CountLaw State.reset ∧
    QueueLaw State.reset ∧ DeliveryLaw State.reset ∧ DiscardLaw State.reset ∧
    ProgressLaw State.reset ∧ GrantLevelsLaw State.reset ∧ HeadLaw State.reset

/-- After every step no choice of the transmitter and no dispatch is left to make, and ALERTn shows its
condition (R110, R111, R115, R148). -/
def Obligations.StepsKeepTheTransmitterSettled : Prop :=
  ∀ s t : State, Settled s → AlertLaw s → step s = .next t → Settled t ∧ AlertLaw t

/-- The capacities of R73, R106, R108, R147, R151, a lane BUSY or RESETTING exactly while it has an
access (R77), and no levels kept between commands (log 3). -/
def Obligations.StepsKeepBoundsAndLanes : Prop :=
  ∀ s t : State, Bounded s → LaneLaw s → GrantLevelsLaw s → step s = .next t →
    Bounded t ∧ LaneLaw t ∧ GrantLevelsLaw t

/-- Count 0 exactly in IDLE, in the notice queue exactly in QUEUED, enabled in QUEUED and REPORTED (R121,
R124); the attention source of a READY_LINE target is disabled (R28). -/
def Obligations.StepsKeepTheEventLaws : Prop :=
  ∀ s t : State, EventLaw s → ReadyLineLaw s → step s = .next t → EventLaw t ∧ ReadyLineLaw t

/-- No bridge address lies inside two OPEN windows (R8), and the profile of a target named by an OPEN or
DRAINING window, or with queued work, is SET (R27). -/
def Obligations.StepsKeepWindowsApart : Prop :=
  ∀ s t : State, LoadLaw s → OverlapLaw s → ProfileLaw s → step s = .next t →
    LoadLaw t ∧ OverlapLaw t ∧ ProfileLaw t

/-- The outstanding count of every window is its number of live slots, zero in FREE and CLOSED and above
zero in DRAINING (R16, R3). -/
def Obligations.StepsKeepTheCounts : Prop :=
  ∀ s t : State, LoadLaw s → DeliveryLaw s → CountLaw s → step s = .next t → CountLaw t

/-- Every QUEUED, PAUSED or ACTIVE slot stands once in the queue of its own target and no other slot
stands in any, and only the head of a queue is ever ACTIVE or PAUSED (R49, R73, R74); a tag stands in the
delivery queue, once, exactly when its slot is DONE (R96). -/
def Obligations.StepsKeepTheQueues : Prop :=
  ∀ s t : State, QueueLaw s → HeadLaw s → DeliveryLaw s → step s = .next t →
    QueueLaw t ∧ HeadLaw t ∧ DeliveryLaw t

/-- The tags of the discard list belong to FREE slots, none twice (R106), and no progress exceeds its
length (R62). -/
def Obligations.StepsKeepDiscardsAndProgress : Prop :=
  ∀ s t : State, DiscardLaw s → ProgressLaw s → step s = .next t → DiscardLaw t ∧ ProgressLaw t
end

