-- ==== Sys2Proof/Laws/Bytes.lean ====
section
/-! SUPPORT. The byte codings read back: indices, flags, numbers of two and four bytes. -/

namespace Sys2Proof.Machine

@[simp] theorem byteAt_cons_zero (b : Byte) (bs : List Byte) : byteAt (b :: bs) 0 = b := rfl

@[simp] theorem byteAt_cons_succ (b : Byte) (bs : List Byte) (k : Nat) :
    byteAt (b :: bs) (k + 1) = byteAt bs k := by simp [byteAt]

theorem byteOf_toNat (n : Nat) (h : n < 256) : (byteOf n).toNat = n := by
  simp [byteOf, Nat.mod_eq_of_lt h]

@[simp] theorem byteOf_toNat_self (b : Byte) : byteOf b.toNat = b := by simp [byteOf]

/-- An index byte names its index. -/
theorem indexOf_byteOf {n : Nat} (h : n ≤ 256) (i : Fin n) : indexOf? n (byteOf i.val) = some i := by
  have := byteOf_toNat i.val (lt_of_lt_of_le i.isLt h)
  simp [indexOf?, this]

/-- An index byte out of range names none. -/
theorem indexOf_none {n : Nat} {b : Byte} (h : n ≤ b.toNat) : indexOf? n b = none := by
  simp [indexOf?, Nat.not_lt.mpr h]

/-- What an index byte names, it is the byte of. -/
theorem indexOf_some {n : Nat} {b : Byte} {i : Fin n} (h : indexOf? n b = some i) :
    b = byteOf i.val := by
  unfold indexOf? at h
  split at h
  · cases h; simp
  · cases h

@[simp] theorem boolByte_toNat_le (b : Bool) : (boolByte b).toNat ≤ 1 := by cases b <;> decide

@[simp] theorem boolByte_eq_one (b : Bool) : (boolByte b == 1) = b := by cases b <;> decide

/-- The four bytes of a field, least significant first, make the field. -/
theorem le32_join (a : BitVec 32) :
    a.extractLsb' 24 8 ++ a.extractLsb' 16 8 ++ a.extractLsb' 8 8 ++ a.extractLsb' 0 8 = a := by
  ext k hk
  simp only [BitVec.getElem_append, BitVec.getElem_extractLsb']
  split
  · simp [BitVec.getLsbD_eq_getElem hk]
  · split
    · rw [show 8 + (k - 8) = k by omega, BitVec.getLsbD_eq_getElem hk]
    · split
      · rw [show 16 + (k - 8 - 8) = k by omega, BitVec.getLsbD_eq_getElem hk]
      · rw [show 24 + (k - 8 - 8 - 8) = k by omega, BitVec.getLsbD_eq_getElem hk]

/-- A four-byte field at the start of a list. -/
theorem u32At_le32 (a : BitVec 32) (rest : List Byte) : u32At (le32 a ++ rest) 0 = a := by
  simpa [u32At, le32] using le32_join a

@[simp] theorem u32At_cons (b : Byte) (bs : List Byte) (k : Nat) :
    u32At (b :: bs) (k + 1) = u32At bs k := by
  simp [u32At, Nat.add_right_comm _ 1]

/-- A two-byte number reads back. -/
theorem le16_join (n : Nat) (h : n < 65536) :
    (byteOf n).toNat + 256 * (byteOf (n / 256)).toNat = n := by
  simp only [byteOf, BitVec.toNat_ofNat]
  omega

theorem u16At_le16 (n : Nat) (h : n < 65536) (rest : List Byte) : u16At (le16 n ++ rest) 0 = n := by
  simpa [u16At, le16] using le16_join n h

/-- A table in the order of its indices. -/
theorem toList_finRange {α : Type} {n : Nat} (v : Vector α n) :
    v.toList = (List.finRange n).map fun i => v[i.val] := by
  apply List.ext_getElem <;> simp

end Sys2Proof.Machine
end

