-- ==== Sys2Proof/Laws/State.lean ====
section
/-! SUPPORT. The fields of State after each plain table write: one lemma for each field, by rfl. -/

namespace Sys2Proof.Machine

/-! ### setSlot -/

@[simp] theorem setSlot_inReset (tag : Tag) (sl : Slot) (s : State) :
    (setSlot tag sl s).inReset = s.inReset := rfl
@[simp] theorem setSlot_rdy (tag : Tag) (sl : Slot) (s : State) :
    (setSlot tag sl s).rdy = s.rdy := rfl
@[simp] theorem setSlot_lk (tag : Tag) (sl : Slot) (s : State) :
    (setSlot tag sl s).lk = s.lk := rfl
@[simp] theorem setSlot_alertn (tag : Tag) (sl : Slot) (s : State) :
    (setSlot tag sl s).alertn = s.alertn := rfl
@[simp] theorem setSlot_rateCode (tag : Tag) (sl : Slot) (s : State) :
    (setSlot tag sl s).rateCode = s.rateCode := rfl
@[simp] theorem setSlot_cfgsrc (tag : Tag) (sl : Slot) (s : State) :
    (setSlot tag sl s).cfgsrc = s.cfgsrc := rfl
@[simp] theorem setSlot_link (tag : Tag) (sl : Slot) (s : State) :
    (setSlot tag sl s).link = s.link := rfl
@[simp] theorem setSlot_session (tag : Tag) (sl : Slot) (s : State) :
    (setSlot tag sl s).session = s.session := rfl
@[simp] theorem setSlot_receiver (tag : Tag) (sl : Slot) (s : State) :
    (setSlot tag sl s).receiver = s.receiver := rfl
@[simp] theorem setSlot_inbound (tag : Tag) (sl : Slot) (s : State) :
    (setSlot tag sl s).inbound = s.inbound := rfl
@[simp] theorem setSlot_replies (tag : Tag) (sl : Slot) (s : State) :
    (setSlot tag sl s).replies = s.replies := rfl
@[simp] theorem setSlot_cache (tag : Tag) (sl : Slot) (s : State) :
    (setSlot tag sl s).cache = s.cache := rfl
@[simp] theorem setSlot_snapshot (tag : Tag) (sl : Slot) (s : State) :
    (setSlot tag sl s).snapshot = s.snapshot := rfl
@[simp] theorem setSlot_credits (tag : Tag) (sl : Slot) (s : State) :
    (setSlot tag sl s).credits = s.credits := rfl
@[simp] theorem setSlot_holdTime (tag : Tag) (sl : Slot) (s : State) :
    (setSlot tag sl s).holdTime = s.holdTime := rfl
@[simp] theorem setSlot_lastServed (tag : Tag) (sl : Slot) (s : State) :
    (setSlot tag sl s).lastServed = s.lastServed := rfl
@[simp] theorem setSlot_outSeq (tag : Tag) (sl : Slot) (s : State) :
    (setSlot tag sl s).outSeq = s.outSeq := rfl
@[simp] theorem setSlot_sending (tag : Tag) (sl : Slot) (s : State) :
    (setSlot tag sl s).sending = s.sending := rfl
@[simp] theorem setSlot_windows (tag : Tag) (sl : Slot) (s : State) :
    (setSlot tag sl s).windows = s.windows := rfl
@[simp] theorem setSlot_profiles (tag : Tag) (sl : Slot) (s : State) :
    (setSlot tag sl s).profiles = s.profiles := rfl
@[simp] theorem setSlot_slots (tag : Tag) (sl : Slot) (s : State) :
    (setSlot tag sl s).slots = s.slots.set tag.val sl := rfl
@[simp] theorem setSlot_queues (tag : Tag) (sl : Slot) (s : State) :
    (setSlot tag sl s).queues = s.queues := rfl
@[simp] theorem setSlot_delivery (tag : Tag) (sl : Slot) (s : State) :
    (setSlot tag sl s).delivery = s.delivery := rfl
@[simp] theorem setSlot_discards (tag : Tag) (sl : Slot) (s : State) :
    (setSlot tag sl s).discards = s.discards := rfl
@[simp] theorem setSlot_lanes (tag : Tag) (sl : Slot) (s : State) :
    (setSlot tag sl s).lanes = s.lanes := rfl
@[simp] theorem setSlot_sources (tag : Tag) (sl : Slot) (s : State) :
    (setSlot tag sl s).sources = s.sources := rfl
@[simp] theorem setSlot_filters (tag : Tag) (sl : Slot) (s : State) :
    (setSlot tag sl s).filters = s.filters := rfl
@[simp] theorem setSlot_notices (tag : Tag) (sl : Slot) (s : State) :
    (setSlot tag sl s).notices = s.notices := rfl
@[simp] theorem setSlot_loadOutcome (tag : Tag) (sl : Slot) (s : State) :
    (setSlot tag sl s).loadOutcome = s.loadOutcome := rfl
@[simp] theorem setSlot_failureCode (tag : Tag) (sl : Slot) (s : State) :
    (setSlot tag sl s).failureCode = s.failureCode := rfl
@[simp] theorem setSlot_loadPhase (tag : Tag) (sl : Slot) (s : State) :
    (setSlot tag sl s).loadPhase = s.loadPhase := rfl
@[simp] theorem setSlot_loadBuffer (tag : Tag) (sl : Slot) (s : State) :
    (setSlot tag sl s).loadBuffer = s.loadBuffer := rfl
@[simp] theorem setSlot_bootRead (tag : Tag) (sl : Slot) (s : State) :
    (setSlot tag sl s).bootRead = s.bootRead := rfl
@[simp] theorem setSlot_freeCount (tag : Tag) (sl : Slot) (s : State) :
    (setSlot tag sl s).freeCount = s.freeCount := rfl
@[simp] theorem setSlot_lkAtGrant (tag : Tag) (sl : Slot) (s : State) :
    (setSlot tag sl s).lkAtGrant = s.lkAtGrant := rfl
@[simp] theorem setSlot_pending (tag : Tag) (sl : Slot) (s : State) :
    (setSlot tag sl s).pending = s.pending := rfl

/-! ### setWindow -/

@[simp] theorem setWindow_inReset (i : WinIx) (w : Window) (s : State) :
    (setWindow i w s).inReset = s.inReset := rfl
@[simp] theorem setWindow_rdy (i : WinIx) (w : Window) (s : State) :
    (setWindow i w s).rdy = s.rdy := rfl
@[simp] theorem setWindow_lk (i : WinIx) (w : Window) (s : State) :
    (setWindow i w s).lk = s.lk := rfl
@[simp] theorem setWindow_alertn (i : WinIx) (w : Window) (s : State) :
    (setWindow i w s).alertn = s.alertn := rfl
@[simp] theorem setWindow_rateCode (i : WinIx) (w : Window) (s : State) :
    (setWindow i w s).rateCode = s.rateCode := rfl
@[simp] theorem setWindow_cfgsrc (i : WinIx) (w : Window) (s : State) :
    (setWindow i w s).cfgsrc = s.cfgsrc := rfl
@[simp] theorem setWindow_link (i : WinIx) (w : Window) (s : State) :
    (setWindow i w s).link = s.link := rfl
@[simp] theorem setWindow_session (i : WinIx) (w : Window) (s : State) :
    (setWindow i w s).session = s.session := rfl
@[simp] theorem setWindow_receiver (i : WinIx) (w : Window) (s : State) :
    (setWindow i w s).receiver = s.receiver := rfl
@[simp] theorem setWindow_inbound (i : WinIx) (w : Window) (s : State) :
    (setWindow i w s).inbound = s.inbound := rfl
@[simp] theorem setWindow_replies (i : WinIx) (w : Window) (s : State) :
    (setWindow i w s).replies = s.replies := rfl
@[simp] theorem setWindow_cache (i : WinIx) (w : Window) (s : State) :
    (setWindow i w s).cache = s.cache := rfl
@[simp] theorem setWindow_snapshot (i : WinIx) (w : Window) (s : State) :
    (setWindow i w s).snapshot = s.snapshot := rfl
@[simp] theorem setWindow_credits (i : WinIx) (w : Window) (s : State) :
    (setWindow i w s).credits = s.credits := rfl
@[simp] theorem setWindow_holdTime (i : WinIx) (w : Window) (s : State) :
    (setWindow i w s).holdTime = s.holdTime := rfl
@[simp] theorem setWindow_lastServed (i : WinIx) (w : Window) (s : State) :
    (setWindow i w s).lastServed = s.lastServed := rfl
@[simp] theorem setWindow_outSeq (i : WinIx) (w : Window) (s : State) :
    (setWindow i w s).outSeq = s.outSeq := rfl
@[simp] theorem setWindow_sending (i : WinIx) (w : Window) (s : State) :
    (setWindow i w s).sending = s.sending := rfl
@[simp] theorem setWindow_windows (i : WinIx) (w : Window) (s : State) :
    (setWindow i w s).windows = s.windows.set i.val w := rfl
@[simp] theorem setWindow_profiles (i : WinIx) (w : Window) (s : State) :
    (setWindow i w s).profiles = s.profiles := rfl
@[simp] theorem setWindow_slots (i : WinIx) (w : Window) (s : State) :
    (setWindow i w s).slots = s.slots := rfl
@[simp] theorem setWindow_queues (i : WinIx) (w : Window) (s : State) :
    (setWindow i w s).queues = s.queues := rfl
@[simp] theorem setWindow_delivery (i : WinIx) (w : Window) (s : State) :
    (setWindow i w s).delivery = s.delivery := rfl
@[simp] theorem setWindow_discards (i : WinIx) (w : Window) (s : State) :
    (setWindow i w s).discards = s.discards := rfl
@[simp] theorem setWindow_lanes (i : WinIx) (w : Window) (s : State) :
    (setWindow i w s).lanes = s.lanes := rfl
@[simp] theorem setWindow_sources (i : WinIx) (w : Window) (s : State) :
    (setWindow i w s).sources = s.sources := rfl
@[simp] theorem setWindow_filters (i : WinIx) (w : Window) (s : State) :
    (setWindow i w s).filters = s.filters := rfl
@[simp] theorem setWindow_notices (i : WinIx) (w : Window) (s : State) :
    (setWindow i w s).notices = s.notices := rfl
@[simp] theorem setWindow_loadOutcome (i : WinIx) (w : Window) (s : State) :
    (setWindow i w s).loadOutcome = s.loadOutcome := rfl
@[simp] theorem setWindow_failureCode (i : WinIx) (w : Window) (s : State) :
    (setWindow i w s).failureCode = s.failureCode := rfl
@[simp] theorem setWindow_loadPhase (i : WinIx) (w : Window) (s : State) :
    (setWindow i w s).loadPhase = s.loadPhase := rfl
@[simp] theorem setWindow_loadBuffer (i : WinIx) (w : Window) (s : State) :
    (setWindow i w s).loadBuffer = s.loadBuffer := rfl
@[simp] theorem setWindow_bootRead (i : WinIx) (w : Window) (s : State) :
    (setWindow i w s).bootRead = s.bootRead := rfl
@[simp] theorem setWindow_freeCount (i : WinIx) (w : Window) (s : State) :
    (setWindow i w s).freeCount = s.freeCount := rfl
@[simp] theorem setWindow_lkAtGrant (i : WinIx) (w : Window) (s : State) :
    (setWindow i w s).lkAtGrant = s.lkAtGrant := rfl
@[simp] theorem setWindow_pending (i : WinIx) (w : Window) (s : State) :
    (setWindow i w s).pending = s.pending := rfl

/-! ### setLane -/

@[simp] theorem setLane_inReset (l : LaneIx) (r : Lane) (s : State) :
    (setLane l r s).inReset = s.inReset := rfl
@[simp] theorem setLane_rdy (l : LaneIx) (r : Lane) (s : State) :
    (setLane l r s).rdy = s.rdy := rfl
@[simp] theorem setLane_lk (l : LaneIx) (r : Lane) (s : State) :
    (setLane l r s).lk = s.lk := rfl
@[simp] theorem setLane_alertn (l : LaneIx) (r : Lane) (s : State) :
    (setLane l r s).alertn = s.alertn := rfl
@[simp] theorem setLane_rateCode (l : LaneIx) (r : Lane) (s : State) :
    (setLane l r s).rateCode = s.rateCode := rfl
@[simp] theorem setLane_cfgsrc (l : LaneIx) (r : Lane) (s : State) :
    (setLane l r s).cfgsrc = s.cfgsrc := rfl
@[simp] theorem setLane_link (l : LaneIx) (r : Lane) (s : State) :
    (setLane l r s).link = s.link := rfl
@[simp] theorem setLane_session (l : LaneIx) (r : Lane) (s : State) :
    (setLane l r s).session = s.session := rfl
@[simp] theorem setLane_receiver (l : LaneIx) (r : Lane) (s : State) :
    (setLane l r s).receiver = s.receiver := rfl
@[simp] theorem setLane_inbound (l : LaneIx) (r : Lane) (s : State) :
    (setLane l r s).inbound = s.inbound := rfl
@[simp] theorem setLane_replies (l : LaneIx) (r : Lane) (s : State) :
    (setLane l r s).replies = s.replies := rfl
@[simp] theorem setLane_cache (l : LaneIx) (r : Lane) (s : State) :
    (setLane l r s).cache = s.cache := rfl
@[simp] theorem setLane_snapshot (l : LaneIx) (r : Lane) (s : State) :
    (setLane l r s).snapshot = s.snapshot := rfl
@[simp] theorem setLane_credits (l : LaneIx) (r : Lane) (s : State) :
    (setLane l r s).credits = s.credits := rfl
@[simp] theorem setLane_holdTime (l : LaneIx) (r : Lane) (s : State) :
    (setLane l r s).holdTime = s.holdTime := rfl
@[simp] theorem setLane_lastServed (l : LaneIx) (r : Lane) (s : State) :
    (setLane l r s).lastServed = s.lastServed := rfl
@[simp] theorem setLane_outSeq (l : LaneIx) (r : Lane) (s : State) :
    (setLane l r s).outSeq = s.outSeq := rfl
@[simp] theorem setLane_sending (l : LaneIx) (r : Lane) (s : State) :
    (setLane l r s).sending = s.sending := rfl
@[simp] theorem setLane_windows (l : LaneIx) (r : Lane) (s : State) :
    (setLane l r s).windows = s.windows := rfl
@[simp] theorem setLane_profiles (l : LaneIx) (r : Lane) (s : State) :
    (setLane l r s).profiles = s.profiles := rfl
@[simp] theorem setLane_slots (l : LaneIx) (r : Lane) (s : State) :
    (setLane l r s).slots = s.slots := rfl
@[simp] theorem setLane_queues (l : LaneIx) (r : Lane) (s : State) :
    (setLane l r s).queues = s.queues := rfl
@[simp] theorem setLane_delivery (l : LaneIx) (r : Lane) (s : State) :
    (setLane l r s).delivery = s.delivery := rfl
@[simp] theorem setLane_discards (l : LaneIx) (r : Lane) (s : State) :
    (setLane l r s).discards = s.discards := rfl
@[simp] theorem setLane_lanes (l : LaneIx) (r : Lane) (s : State) :
    (setLane l r s).lanes = s.lanes.set l.val r := rfl
@[simp] theorem setLane_sources (l : LaneIx) (r : Lane) (s : State) :
    (setLane l r s).sources = s.sources := rfl
@[simp] theorem setLane_filters (l : LaneIx) (r : Lane) (s : State) :
    (setLane l r s).filters = s.filters := rfl
@[simp] theorem setLane_notices (l : LaneIx) (r : Lane) (s : State) :
    (setLane l r s).notices = s.notices := rfl
@[simp] theorem setLane_loadOutcome (l : LaneIx) (r : Lane) (s : State) :
    (setLane l r s).loadOutcome = s.loadOutcome := rfl
@[simp] theorem setLane_failureCode (l : LaneIx) (r : Lane) (s : State) :
    (setLane l r s).failureCode = s.failureCode := rfl
@[simp] theorem setLane_loadPhase (l : LaneIx) (r : Lane) (s : State) :
    (setLane l r s).loadPhase = s.loadPhase := rfl
@[simp] theorem setLane_loadBuffer (l : LaneIx) (r : Lane) (s : State) :
    (setLane l r s).loadBuffer = s.loadBuffer := rfl
@[simp] theorem setLane_bootRead (l : LaneIx) (r : Lane) (s : State) :
    (setLane l r s).bootRead = s.bootRead := rfl
@[simp] theorem setLane_freeCount (l : LaneIx) (r : Lane) (s : State) :
    (setLane l r s).freeCount = s.freeCount := rfl
@[simp] theorem setLane_lkAtGrant (l : LaneIx) (r : Lane) (s : State) :
    (setLane l r s).lkAtGrant = s.lkAtGrant := rfl
@[simp] theorem setLane_pending (l : LaneIx) (r : Lane) (s : State) :
    (setLane l r s).pending = s.pending := rfl

/-! ### setReceiver -/

@[simp] theorem setReceiver_inReset (r : Receiver) (s : State) :
    (setReceiver r s).inReset = s.inReset := rfl
@[simp] theorem setReceiver_rdy (r : Receiver) (s : State) :
    (setReceiver r s).rdy = s.rdy := rfl
@[simp] theorem setReceiver_lk (r : Receiver) (s : State) :
    (setReceiver r s).lk = s.lk := rfl
@[simp] theorem setReceiver_alertn (r : Receiver) (s : State) :
    (setReceiver r s).alertn = s.alertn := rfl
@[simp] theorem setReceiver_rateCode (r : Receiver) (s : State) :
    (setReceiver r s).rateCode = s.rateCode := rfl
@[simp] theorem setReceiver_cfgsrc (r : Receiver) (s : State) :
    (setReceiver r s).cfgsrc = s.cfgsrc := rfl
@[simp] theorem setReceiver_link (r : Receiver) (s : State) :
    (setReceiver r s).link = s.link := rfl
@[simp] theorem setReceiver_session (r : Receiver) (s : State) :
    (setReceiver r s).session = s.session := rfl
@[simp] theorem setReceiver_receiver (r : Receiver) (s : State) :
    (setReceiver r s).receiver = r := rfl
@[simp] theorem setReceiver_inbound (r : Receiver) (s : State) :
    (setReceiver r s).inbound = s.inbound := rfl
@[simp] theorem setReceiver_replies (r : Receiver) (s : State) :
    (setReceiver r s).replies = s.replies := rfl
@[simp] theorem setReceiver_cache (r : Receiver) (s : State) :
    (setReceiver r s).cache = s.cache := rfl
@[simp] theorem setReceiver_snapshot (r : Receiver) (s : State) :
    (setReceiver r s).snapshot = s.snapshot := rfl
@[simp] theorem setReceiver_credits (r : Receiver) (s : State) :
    (setReceiver r s).credits = s.credits := rfl
@[simp] theorem setReceiver_holdTime (r : Receiver) (s : State) :
    (setReceiver r s).holdTime = s.holdTime := rfl
@[simp] theorem setReceiver_lastServed (r : Receiver) (s : State) :
    (setReceiver r s).lastServed = s.lastServed := rfl
@[simp] theorem setReceiver_outSeq (r : Receiver) (s : State) :
    (setReceiver r s).outSeq = s.outSeq := rfl
@[simp] theorem setReceiver_sending (r : Receiver) (s : State) :
    (setReceiver r s).sending = s.sending := rfl
@[simp] theorem setReceiver_windows (r : Receiver) (s : State) :
    (setReceiver r s).windows = s.windows := rfl
@[simp] theorem setReceiver_profiles (r : Receiver) (s : State) :
    (setReceiver r s).profiles = s.profiles := rfl
@[simp] theorem setReceiver_slots (r : Receiver) (s : State) :
    (setReceiver r s).slots = s.slots := rfl
@[simp] theorem setReceiver_queues (r : Receiver) (s : State) :
    (setReceiver r s).queues = s.queues := rfl
@[simp] theorem setReceiver_delivery (r : Receiver) (s : State) :
    (setReceiver r s).delivery = s.delivery := rfl
@[simp] theorem setReceiver_discards (r : Receiver) (s : State) :
    (setReceiver r s).discards = s.discards := rfl
@[simp] theorem setReceiver_lanes (r : Receiver) (s : State) :
    (setReceiver r s).lanes = s.lanes := rfl
@[simp] theorem setReceiver_sources (r : Receiver) (s : State) :
    (setReceiver r s).sources = s.sources := rfl
@[simp] theorem setReceiver_filters (r : Receiver) (s : State) :
    (setReceiver r s).filters = s.filters := rfl
@[simp] theorem setReceiver_notices (r : Receiver) (s : State) :
    (setReceiver r s).notices = s.notices := rfl
@[simp] theorem setReceiver_loadOutcome (r : Receiver) (s : State) :
    (setReceiver r s).loadOutcome = s.loadOutcome := rfl
@[simp] theorem setReceiver_failureCode (r : Receiver) (s : State) :
    (setReceiver r s).failureCode = s.failureCode := rfl
@[simp] theorem setReceiver_loadPhase (r : Receiver) (s : State) :
    (setReceiver r s).loadPhase = s.loadPhase := rfl
@[simp] theorem setReceiver_loadBuffer (r : Receiver) (s : State) :
    (setReceiver r s).loadBuffer = s.loadBuffer := rfl
@[simp] theorem setReceiver_bootRead (r : Receiver) (s : State) :
    (setReceiver r s).bootRead = s.bootRead := rfl
@[simp] theorem setReceiver_freeCount (r : Receiver) (s : State) :
    (setReceiver r s).freeCount = s.freeCount := rfl
@[simp] theorem setReceiver_lkAtGrant (r : Receiver) (s : State) :
    (setReceiver r s).lkAtGrant = s.lkAtGrant := rfl
@[simp] theorem setReceiver_pending (r : Receiver) (s : State) :
    (setReceiver r s).pending = s.pending := rfl

/-! ### setFilter -/

@[simp] theorem setFilter_inReset (t : Target) (f : FilterState) (s : State) :
    (setFilter t f s).inReset = s.inReset := rfl
@[simp] theorem setFilter_rdy (t : Target) (f : FilterState) (s : State) :
    (setFilter t f s).rdy = s.rdy := rfl
@[simp] theorem setFilter_lk (t : Target) (f : FilterState) (s : State) :
    (setFilter t f s).lk = s.lk := rfl
@[simp] theorem setFilter_alertn (t : Target) (f : FilterState) (s : State) :
    (setFilter t f s).alertn = s.alertn := rfl
@[simp] theorem setFilter_rateCode (t : Target) (f : FilterState) (s : State) :
    (setFilter t f s).rateCode = s.rateCode := rfl
@[simp] theorem setFilter_cfgsrc (t : Target) (f : FilterState) (s : State) :
    (setFilter t f s).cfgsrc = s.cfgsrc := rfl
@[simp] theorem setFilter_link (t : Target) (f : FilterState) (s : State) :
    (setFilter t f s).link = s.link := rfl
@[simp] theorem setFilter_session (t : Target) (f : FilterState) (s : State) :
    (setFilter t f s).session = s.session := rfl
@[simp] theorem setFilter_receiver (t : Target) (f : FilterState) (s : State) :
    (setFilter t f s).receiver = s.receiver := rfl
@[simp] theorem setFilter_inbound (t : Target) (f : FilterState) (s : State) :
    (setFilter t f s).inbound = s.inbound := rfl
@[simp] theorem setFilter_replies (t : Target) (f : FilterState) (s : State) :
    (setFilter t f s).replies = s.replies := rfl
@[simp] theorem setFilter_cache (t : Target) (f : FilterState) (s : State) :
    (setFilter t f s).cache = s.cache := rfl
@[simp] theorem setFilter_snapshot (t : Target) (f : FilterState) (s : State) :
    (setFilter t f s).snapshot = s.snapshot := rfl
@[simp] theorem setFilter_credits (t : Target) (f : FilterState) (s : State) :
    (setFilter t f s).credits = s.credits := rfl
@[simp] theorem setFilter_holdTime (t : Target) (f : FilterState) (s : State) :
    (setFilter t f s).holdTime = s.holdTime := rfl
@[simp] theorem setFilter_lastServed (t : Target) (f : FilterState) (s : State) :
    (setFilter t f s).lastServed = s.lastServed := rfl
@[simp] theorem setFilter_outSeq (t : Target) (f : FilterState) (s : State) :
    (setFilter t f s).outSeq = s.outSeq := rfl
@[simp] theorem setFilter_sending (t : Target) (f : FilterState) (s : State) :
    (setFilter t f s).sending = s.sending := rfl
@[simp] theorem setFilter_windows (t : Target) (f : FilterState) (s : State) :
    (setFilter t f s).windows = s.windows := rfl
@[simp] theorem setFilter_profiles (t : Target) (f : FilterState) (s : State) :
    (setFilter t f s).profiles = s.profiles := rfl
@[simp] theorem setFilter_slots (t : Target) (f : FilterState) (s : State) :
    (setFilter t f s).slots = s.slots := rfl
@[simp] theorem setFilter_queues (t : Target) (f : FilterState) (s : State) :
    (setFilter t f s).queues = s.queues := rfl
@[simp] theorem setFilter_delivery (t : Target) (f : FilterState) (s : State) :
    (setFilter t f s).delivery = s.delivery := rfl
@[simp] theorem setFilter_discards (t : Target) (f : FilterState) (s : State) :
    (setFilter t f s).discards = s.discards := rfl
@[simp] theorem setFilter_lanes (t : Target) (f : FilterState) (s : State) :
    (setFilter t f s).lanes = s.lanes := rfl
@[simp] theorem setFilter_sources (t : Target) (f : FilterState) (s : State) :
    (setFilter t f s).sources = s.sources := rfl
@[simp] theorem setFilter_filters (t : Target) (f : FilterState) (s : State) :
    (setFilter t f s).filters = s.filters.set t.val f := rfl
@[simp] theorem setFilter_notices (t : Target) (f : FilterState) (s : State) :
    (setFilter t f s).notices = s.notices := rfl
@[simp] theorem setFilter_loadOutcome (t : Target) (f : FilterState) (s : State) :
    (setFilter t f s).loadOutcome = s.loadOutcome := rfl
@[simp] theorem setFilter_failureCode (t : Target) (f : FilterState) (s : State) :
    (setFilter t f s).failureCode = s.failureCode := rfl
@[simp] theorem setFilter_loadPhase (t : Target) (f : FilterState) (s : State) :
    (setFilter t f s).loadPhase = s.loadPhase := rfl
@[simp] theorem setFilter_loadBuffer (t : Target) (f : FilterState) (s : State) :
    (setFilter t f s).loadBuffer = s.loadBuffer := rfl
@[simp] theorem setFilter_bootRead (t : Target) (f : FilterState) (s : State) :
    (setFilter t f s).bootRead = s.bootRead := rfl
@[simp] theorem setFilter_freeCount (t : Target) (f : FilterState) (s : State) :
    (setFilter t f s).freeCount = s.freeCount := rfl
@[simp] theorem setFilter_lkAtGrant (t : Target) (f : FilterState) (s : State) :
    (setFilter t f s).lkAtGrant = s.lkAtGrant := rfl
@[simp] theorem setFilter_pending (t : Target) (f : FilterState) (s : State) :
    (setFilter t f s).pending = s.pending := rfl

/-! ### setPin -/

@[simp] theorem setPin_inReset (t : Target) (level : Bool) (s : State) :
    (setPin t level s).inReset = s.inReset := rfl
@[simp] theorem setPin_rdy (t : Target) (level : Bool) (s : State) :
    (setPin t level s).rdy = s.rdy.set t.val level := rfl
@[simp] theorem setPin_lk (t : Target) (level : Bool) (s : State) :
    (setPin t level s).lk = s.lk := rfl
@[simp] theorem setPin_alertn (t : Target) (level : Bool) (s : State) :
    (setPin t level s).alertn = s.alertn := rfl
@[simp] theorem setPin_rateCode (t : Target) (level : Bool) (s : State) :
    (setPin t level s).rateCode = s.rateCode := rfl
@[simp] theorem setPin_cfgsrc (t : Target) (level : Bool) (s : State) :
    (setPin t level s).cfgsrc = s.cfgsrc := rfl
@[simp] theorem setPin_link (t : Target) (level : Bool) (s : State) :
    (setPin t level s).link = s.link := rfl
@[simp] theorem setPin_session (t : Target) (level : Bool) (s : State) :
    (setPin t level s).session = s.session := rfl
@[simp] theorem setPin_receiver (t : Target) (level : Bool) (s : State) :
    (setPin t level s).receiver = s.receiver := rfl
@[simp] theorem setPin_inbound (t : Target) (level : Bool) (s : State) :
    (setPin t level s).inbound = s.inbound := rfl
@[simp] theorem setPin_replies (t : Target) (level : Bool) (s : State) :
    (setPin t level s).replies = s.replies := rfl
@[simp] theorem setPin_cache (t : Target) (level : Bool) (s : State) :
    (setPin t level s).cache = s.cache := rfl
@[simp] theorem setPin_snapshot (t : Target) (level : Bool) (s : State) :
    (setPin t level s).snapshot = s.snapshot := rfl
@[simp] theorem setPin_credits (t : Target) (level : Bool) (s : State) :
    (setPin t level s).credits = s.credits := rfl
@[simp] theorem setPin_holdTime (t : Target) (level : Bool) (s : State) :
    (setPin t level s).holdTime = s.holdTime := rfl
@[simp] theorem setPin_lastServed (t : Target) (level : Bool) (s : State) :
    (setPin t level s).lastServed = s.lastServed := rfl
@[simp] theorem setPin_outSeq (t : Target) (level : Bool) (s : State) :
    (setPin t level s).outSeq = s.outSeq := rfl
@[simp] theorem setPin_sending (t : Target) (level : Bool) (s : State) :
    (setPin t level s).sending = s.sending := rfl
@[simp] theorem setPin_windows (t : Target) (level : Bool) (s : State) :
    (setPin t level s).windows = s.windows := rfl
@[simp] theorem setPin_profiles (t : Target) (level : Bool) (s : State) :
    (setPin t level s).profiles = s.profiles := rfl
@[simp] theorem setPin_slots (t : Target) (level : Bool) (s : State) :
    (setPin t level s).slots = s.slots := rfl
@[simp] theorem setPin_queues (t : Target) (level : Bool) (s : State) :
    (setPin t level s).queues = s.queues := rfl
@[simp] theorem setPin_delivery (t : Target) (level : Bool) (s : State) :
    (setPin t level s).delivery = s.delivery := rfl
@[simp] theorem setPin_discards (t : Target) (level : Bool) (s : State) :
    (setPin t level s).discards = s.discards := rfl
@[simp] theorem setPin_lanes (t : Target) (level : Bool) (s : State) :
    (setPin t level s).lanes = s.lanes := rfl
@[simp] theorem setPin_sources (t : Target) (level : Bool) (s : State) :
    (setPin t level s).sources = s.sources := rfl
@[simp] theorem setPin_filters (t : Target) (level : Bool) (s : State) :
    (setPin t level s).filters = s.filters := rfl
@[simp] theorem setPin_notices (t : Target) (level : Bool) (s : State) :
    (setPin t level s).notices = s.notices := rfl
@[simp] theorem setPin_loadOutcome (t : Target) (level : Bool) (s : State) :
    (setPin t level s).loadOutcome = s.loadOutcome := rfl
@[simp] theorem setPin_failureCode (t : Target) (level : Bool) (s : State) :
    (setPin t level s).failureCode = s.failureCode := rfl
@[simp] theorem setPin_loadPhase (t : Target) (level : Bool) (s : State) :
    (setPin t level s).loadPhase = s.loadPhase := rfl
@[simp] theorem setPin_loadBuffer (t : Target) (level : Bool) (s : State) :
    (setPin t level s).loadBuffer = s.loadBuffer := rfl
@[simp] theorem setPin_bootRead (t : Target) (level : Bool) (s : State) :
    (setPin t level s).bootRead = s.bootRead := rfl
@[simp] theorem setPin_freeCount (t : Target) (level : Bool) (s : State) :
    (setPin t level s).freeCount = s.freeCount := rfl
@[simp] theorem setPin_lkAtGrant (t : Target) (level : Bool) (s : State) :
    (setPin t level s).lkAtGrant = s.lkAtGrant := rfl
@[simp] theorem setPin_pending (t : Target) (level : Bool) (s : State) :
    (setPin t level s).pending = s.pending := rfl

/-! ### occur -/

@[simp] theorem occur_inReset (e : SrcIx) (v : BitVec 32) (s : State) :
    (occur e v s).inReset = s.inReset := rfl
@[simp] theorem occur_rdy (e : SrcIx) (v : BitVec 32) (s : State) :
    (occur e v s).rdy = s.rdy := rfl
@[simp] theorem occur_lk (e : SrcIx) (v : BitVec 32) (s : State) :
    (occur e v s).lk = s.lk := rfl
@[simp] theorem occur_alertn (e : SrcIx) (v : BitVec 32) (s : State) :
    (occur e v s).alertn = s.alertn := rfl
@[simp] theorem occur_rateCode (e : SrcIx) (v : BitVec 32) (s : State) :
    (occur e v s).rateCode = s.rateCode := rfl
@[simp] theorem occur_cfgsrc (e : SrcIx) (v : BitVec 32) (s : State) :
    (occur e v s).cfgsrc = s.cfgsrc := rfl
@[simp] theorem occur_link (e : SrcIx) (v : BitVec 32) (s : State) :
    (occur e v s).link = s.link := rfl
@[simp] theorem occur_session (e : SrcIx) (v : BitVec 32) (s : State) :
    (occur e v s).session = s.session := rfl
@[simp] theorem occur_receiver (e : SrcIx) (v : BitVec 32) (s : State) :
    (occur e v s).receiver = s.receiver := rfl
@[simp] theorem occur_inbound (e : SrcIx) (v : BitVec 32) (s : State) :
    (occur e v s).inbound = s.inbound := rfl
@[simp] theorem occur_replies (e : SrcIx) (v : BitVec 32) (s : State) :
    (occur e v s).replies = s.replies := rfl
@[simp] theorem occur_cache (e : SrcIx) (v : BitVec 32) (s : State) :
    (occur e v s).cache = s.cache := rfl
@[simp] theorem occur_snapshot (e : SrcIx) (v : BitVec 32) (s : State) :
    (occur e v s).snapshot = s.snapshot := rfl
@[simp] theorem occur_credits (e : SrcIx) (v : BitVec 32) (s : State) :
    (occur e v s).credits = s.credits := rfl
@[simp] theorem occur_holdTime (e : SrcIx) (v : BitVec 32) (s : State) :
    (occur e v s).holdTime = s.holdTime := rfl
@[simp] theorem occur_lastServed (e : SrcIx) (v : BitVec 32) (s : State) :
    (occur e v s).lastServed = s.lastServed := rfl
@[simp] theorem occur_outSeq (e : SrcIx) (v : BitVec 32) (s : State) :
    (occur e v s).outSeq = s.outSeq := rfl
@[simp] theorem occur_sending (e : SrcIx) (v : BitVec 32) (s : State) :
    (occur e v s).sending = s.sending := rfl
@[simp] theorem occur_windows (e : SrcIx) (v : BitVec 32) (s : State) :
    (occur e v s).windows = s.windows := rfl
@[simp] theorem occur_profiles (e : SrcIx) (v : BitVec 32) (s : State) :
    (occur e v s).profiles = s.profiles := rfl
@[simp] theorem occur_slots (e : SrcIx) (v : BitVec 32) (s : State) :
    (occur e v s).slots = s.slots := rfl
@[simp] theorem occur_queues (e : SrcIx) (v : BitVec 32) (s : State) :
    (occur e v s).queues = s.queues := rfl
@[simp] theorem occur_delivery (e : SrcIx) (v : BitVec 32) (s : State) :
    (occur e v s).delivery = s.delivery := rfl
@[simp] theorem occur_discards (e : SrcIx) (v : BitVec 32) (s : State) :
    (occur e v s).discards = s.discards := rfl
@[simp] theorem occur_lanes (e : SrcIx) (v : BitVec 32) (s : State) :
    (occur e v s).lanes = s.lanes := rfl
@[simp] theorem occur_sources (e : SrcIx) (v : BitVec 32) (s : State) :
    (occur e v s).sources = s.sources.set e.val (s.sources[e.val].occurred e v) := rfl
@[simp] theorem occur_filters (e : SrcIx) (v : BitVec 32) (s : State) :
    (occur e v s).filters = s.filters := rfl
@[simp] theorem occur_notices (e : SrcIx) (v : BitVec 32) (s : State) :
    (occur e v s).notices = if s.sources[e.val].joins then s.notices ++ [e] else s.notices := rfl
@[simp] theorem occur_loadOutcome (e : SrcIx) (v : BitVec 32) (s : State) :
    (occur e v s).loadOutcome = s.loadOutcome := rfl
@[simp] theorem occur_failureCode (e : SrcIx) (v : BitVec 32) (s : State) :
    (occur e v s).failureCode = s.failureCode := rfl
@[simp] theorem occur_loadPhase (e : SrcIx) (v : BitVec 32) (s : State) :
    (occur e v s).loadPhase = s.loadPhase := rfl
@[simp] theorem occur_loadBuffer (e : SrcIx) (v : BitVec 32) (s : State) :
    (occur e v s).loadBuffer = s.loadBuffer := rfl
@[simp] theorem occur_bootRead (e : SrcIx) (v : BitVec 32) (s : State) :
    (occur e v s).bootRead = s.bootRead := rfl
@[simp] theorem occur_freeCount (e : SrcIx) (v : BitVec 32) (s : State) :
    (occur e v s).freeCount = s.freeCount := rfl
@[simp] theorem occur_lkAtGrant (e : SrcIx) (v : BitVec 32) (s : State) :
    (occur e v s).lkAtGrant = s.lkAtGrant := rfl
@[simp] theorem occur_pending (e : SrcIx) (v : BitVec 32) (s : State) :
    (occur e v s).pending = s.pending := rfl

/-! ### disableSource -/

@[simp] theorem disableSource_inReset (e : SrcIx) (m : ClearMode) (s : State) :
    (disableSource e m s).inReset = s.inReset := rfl
@[simp] theorem disableSource_rdy (e : SrcIx) (m : ClearMode) (s : State) :
    (disableSource e m s).rdy = s.rdy := rfl
@[simp] theorem disableSource_lk (e : SrcIx) (m : ClearMode) (s : State) :
    (disableSource e m s).lk = s.lk := rfl
@[simp] theorem disableSource_alertn (e : SrcIx) (m : ClearMode) (s : State) :
    (disableSource e m s).alertn = s.alertn := rfl
@[simp] theorem disableSource_rateCode (e : SrcIx) (m : ClearMode) (s : State) :
    (disableSource e m s).rateCode = s.rateCode := rfl
@[simp] theorem disableSource_cfgsrc (e : SrcIx) (m : ClearMode) (s : State) :
    (disableSource e m s).cfgsrc = s.cfgsrc := rfl
@[simp] theorem disableSource_link (e : SrcIx) (m : ClearMode) (s : State) :
    (disableSource e m s).link = s.link := rfl
@[simp] theorem disableSource_session (e : SrcIx) (m : ClearMode) (s : State) :
    (disableSource e m s).session = s.session := rfl
@[simp] theorem disableSource_receiver (e : SrcIx) (m : ClearMode) (s : State) :
    (disableSource e m s).receiver = s.receiver := rfl
@[simp] theorem disableSource_inbound (e : SrcIx) (m : ClearMode) (s : State) :
    (disableSource e m s).inbound = s.inbound := rfl
@[simp] theorem disableSource_replies (e : SrcIx) (m : ClearMode) (s : State) :
    (disableSource e m s).replies = s.replies := rfl
@[simp] theorem disableSource_cache (e : SrcIx) (m : ClearMode) (s : State) :
    (disableSource e m s).cache = s.cache := rfl
@[simp] theorem disableSource_snapshot (e : SrcIx) (m : ClearMode) (s : State) :
    (disableSource e m s).snapshot = s.snapshot := rfl
@[simp] theorem disableSource_credits (e : SrcIx) (m : ClearMode) (s : State) :
    (disableSource e m s).credits = s.credits := rfl
@[simp] theorem disableSource_holdTime (e : SrcIx) (m : ClearMode) (s : State) :
    (disableSource e m s).holdTime = s.holdTime := rfl
@[simp] theorem disableSource_lastServed (e : SrcIx) (m : ClearMode) (s : State) :
    (disableSource e m s).lastServed = s.lastServed := rfl
@[simp] theorem disableSource_outSeq (e : SrcIx) (m : ClearMode) (s : State) :
    (disableSource e m s).outSeq = s.outSeq := rfl
@[simp] theorem disableSource_sending (e : SrcIx) (m : ClearMode) (s : State) :
    (disableSource e m s).sending = s.sending := rfl
@[simp] theorem disableSource_windows (e : SrcIx) (m : ClearMode) (s : State) :
    (disableSource e m s).windows = s.windows := rfl
@[simp] theorem disableSource_profiles (e : SrcIx) (m : ClearMode) (s : State) :
    (disableSource e m s).profiles = s.profiles := rfl
@[simp] theorem disableSource_slots (e : SrcIx) (m : ClearMode) (s : State) :
    (disableSource e m s).slots = s.slots := rfl
@[simp] theorem disableSource_queues (e : SrcIx) (m : ClearMode) (s : State) :
    (disableSource e m s).queues = s.queues := rfl
@[simp] theorem disableSource_delivery (e : SrcIx) (m : ClearMode) (s : State) :
    (disableSource e m s).delivery = s.delivery := rfl
@[simp] theorem disableSource_discards (e : SrcIx) (m : ClearMode) (s : State) :
    (disableSource e m s).discards = s.discards := rfl
@[simp] theorem disableSource_lanes (e : SrcIx) (m : ClearMode) (s : State) :
    (disableSource e m s).lanes = s.lanes := rfl
@[simp] theorem disableSource_sources (e : SrcIx) (m : ClearMode) (s : State) :
    (disableSource e m s).sources = s.sources.set e.val (Source.resting false m) := rfl
@[simp] theorem disableSource_filters (e : SrcIx) (m : ClearMode) (s : State) :
    (disableSource e m s).filters = s.filters := rfl
@[simp] theorem disableSource_notices (e : SrcIx) (m : ClearMode) (s : State) :
    (disableSource e m s).notices = s.notices.filter (· != e) := rfl
@[simp] theorem disableSource_loadOutcome (e : SrcIx) (m : ClearMode) (s : State) :
    (disableSource e m s).loadOutcome = s.loadOutcome := rfl
@[simp] theorem disableSource_failureCode (e : SrcIx) (m : ClearMode) (s : State) :
    (disableSource e m s).failureCode = s.failureCode := rfl
@[simp] theorem disableSource_loadPhase (e : SrcIx) (m : ClearMode) (s : State) :
    (disableSource e m s).loadPhase = s.loadPhase := rfl
@[simp] theorem disableSource_loadBuffer (e : SrcIx) (m : ClearMode) (s : State) :
    (disableSource e m s).loadBuffer = s.loadBuffer := rfl
@[simp] theorem disableSource_bootRead (e : SrcIx) (m : ClearMode) (s : State) :
    (disableSource e m s).bootRead = s.bootRead := rfl
@[simp] theorem disableSource_freeCount (e : SrcIx) (m : ClearMode) (s : State) :
    (disableSource e m s).freeCount = s.freeCount := rfl
@[simp] theorem disableSource_lkAtGrant (e : SrcIx) (m : ClearMode) (s : State) :
    (disableSource e m s).lkAtGrant = s.lkAtGrant := rfl
@[simp] theorem disableSource_pending (e : SrcIx) (m : ClearMode) (s : State) :
    (disableSource e m s).pending = s.pending := rfl

/-! ### enableSource -/

@[simp] theorem enableSource_inReset (e : SrcIx) (m : ClearMode) (s : State) :
    (enableSource e m s).inReset = s.inReset := rfl
@[simp] theorem enableSource_rdy (e : SrcIx) (m : ClearMode) (s : State) :
    (enableSource e m s).rdy = s.rdy := rfl
@[simp] theorem enableSource_lk (e : SrcIx) (m : ClearMode) (s : State) :
    (enableSource e m s).lk = s.lk := rfl
@[simp] theorem enableSource_alertn (e : SrcIx) (m : ClearMode) (s : State) :
    (enableSource e m s).alertn = s.alertn := rfl
@[simp] theorem enableSource_rateCode (e : SrcIx) (m : ClearMode) (s : State) :
    (enableSource e m s).rateCode = s.rateCode := rfl
@[simp] theorem enableSource_cfgsrc (e : SrcIx) (m : ClearMode) (s : State) :
    (enableSource e m s).cfgsrc = s.cfgsrc := rfl
@[simp] theorem enableSource_link (e : SrcIx) (m : ClearMode) (s : State) :
    (enableSource e m s).link = s.link := rfl
@[simp] theorem enableSource_session (e : SrcIx) (m : ClearMode) (s : State) :
    (enableSource e m s).session = s.session := rfl
@[simp] theorem enableSource_receiver (e : SrcIx) (m : ClearMode) (s : State) :
    (enableSource e m s).receiver = s.receiver := rfl
@[simp] theorem enableSource_inbound (e : SrcIx) (m : ClearMode) (s : State) :
    (enableSource e m s).inbound = s.inbound := rfl
@[simp] theorem enableSource_replies (e : SrcIx) (m : ClearMode) (s : State) :
    (enableSource e m s).replies = s.replies := rfl
@[simp] theorem enableSource_cache (e : SrcIx) (m : ClearMode) (s : State) :
    (enableSource e m s).cache = s.cache := rfl
@[simp] theorem enableSource_snapshot (e : SrcIx) (m : ClearMode) (s : State) :
    (enableSource e m s).snapshot = s.snapshot := rfl
@[simp] theorem enableSource_credits (e : SrcIx) (m : ClearMode) (s : State) :
    (enableSource e m s).credits = s.credits := rfl
@[simp] theorem enableSource_holdTime (e : SrcIx) (m : ClearMode) (s : State) :
    (enableSource e m s).holdTime = s.holdTime := rfl
@[simp] theorem enableSource_lastServed (e : SrcIx) (m : ClearMode) (s : State) :
    (enableSource e m s).lastServed = s.lastServed := rfl
@[simp] theorem enableSource_outSeq (e : SrcIx) (m : ClearMode) (s : State) :
    (enableSource e m s).outSeq = s.outSeq := rfl
@[simp] theorem enableSource_sending (e : SrcIx) (m : ClearMode) (s : State) :
    (enableSource e m s).sending = s.sending := rfl
@[simp] theorem enableSource_windows (e : SrcIx) (m : ClearMode) (s : State) :
    (enableSource e m s).windows = s.windows := rfl
@[simp] theorem enableSource_profiles (e : SrcIx) (m : ClearMode) (s : State) :
    (enableSource e m s).profiles = s.profiles := rfl
@[simp] theorem enableSource_slots (e : SrcIx) (m : ClearMode) (s : State) :
    (enableSource e m s).slots = s.slots := rfl
@[simp] theorem enableSource_queues (e : SrcIx) (m : ClearMode) (s : State) :
    (enableSource e m s).queues = s.queues := rfl
@[simp] theorem enableSource_delivery (e : SrcIx) (m : ClearMode) (s : State) :
    (enableSource e m s).delivery = s.delivery := rfl
@[simp] theorem enableSource_discards (e : SrcIx) (m : ClearMode) (s : State) :
    (enableSource e m s).discards = s.discards := rfl
@[simp] theorem enableSource_lanes (e : SrcIx) (m : ClearMode) (s : State) :
    (enableSource e m s).lanes = s.lanes := rfl
@[simp] theorem enableSource_sources (e : SrcIx) (m : ClearMode) (s : State) :
    (enableSource e m s).sources = s.sources.set e.val (Source.resting true m) := rfl
@[simp] theorem enableSource_filters (e : SrcIx) (m : ClearMode) (s : State) :
    (enableSource e m s).filters = s.filters := rfl
@[simp] theorem enableSource_notices (e : SrcIx) (m : ClearMode) (s : State) :
    (enableSource e m s).notices = s.notices := rfl
@[simp] theorem enableSource_loadOutcome (e : SrcIx) (m : ClearMode) (s : State) :
    (enableSource e m s).loadOutcome = s.loadOutcome := rfl
@[simp] theorem enableSource_failureCode (e : SrcIx) (m : ClearMode) (s : State) :
    (enableSource e m s).failureCode = s.failureCode := rfl
@[simp] theorem enableSource_loadPhase (e : SrcIx) (m : ClearMode) (s : State) :
    (enableSource e m s).loadPhase = s.loadPhase := rfl
@[simp] theorem enableSource_loadBuffer (e : SrcIx) (m : ClearMode) (s : State) :
    (enableSource e m s).loadBuffer = s.loadBuffer := rfl
@[simp] theorem enableSource_bootRead (e : SrcIx) (m : ClearMode) (s : State) :
    (enableSource e m s).bootRead = s.bootRead := rfl
@[simp] theorem enableSource_freeCount (e : SrcIx) (m : ClearMode) (s : State) :
    (enableSource e m s).freeCount = s.freeCount := rfl
@[simp] theorem enableSource_lkAtGrant (e : SrcIx) (m : ClearMode) (s : State) :
    (enableSource e m s).lkAtGrant = s.lkAtGrant := rfl
@[simp] theorem enableSource_pending (e : SrcIx) (m : ClearMode) (s : State) :
    (enableSource e m s).pending = s.pending := rfl

/-! ### acknowledge -/

@[simp] theorem acknowledge_inReset (e : SrcIx) (s : State) :
    (acknowledge e s).inReset = s.inReset := rfl
@[simp] theorem acknowledge_rdy (e : SrcIx) (s : State) :
    (acknowledge e s).rdy = s.rdy := rfl
@[simp] theorem acknowledge_lk (e : SrcIx) (s : State) :
    (acknowledge e s).lk = s.lk := rfl
@[simp] theorem acknowledge_alertn (e : SrcIx) (s : State) :
    (acknowledge e s).alertn = s.alertn := rfl
@[simp] theorem acknowledge_rateCode (e : SrcIx) (s : State) :
    (acknowledge e s).rateCode = s.rateCode := rfl
@[simp] theorem acknowledge_cfgsrc (e : SrcIx) (s : State) :
    (acknowledge e s).cfgsrc = s.cfgsrc := rfl
@[simp] theorem acknowledge_link (e : SrcIx) (s : State) :
    (acknowledge e s).link = s.link := rfl
@[simp] theorem acknowledge_session (e : SrcIx) (s : State) :
    (acknowledge e s).session = s.session := rfl
@[simp] theorem acknowledge_receiver (e : SrcIx) (s : State) :
    (acknowledge e s).receiver = s.receiver := rfl
@[simp] theorem acknowledge_inbound (e : SrcIx) (s : State) :
    (acknowledge e s).inbound = s.inbound := rfl
@[simp] theorem acknowledge_replies (e : SrcIx) (s : State) :
    (acknowledge e s).replies = s.replies := rfl
@[simp] theorem acknowledge_cache (e : SrcIx) (s : State) :
    (acknowledge e s).cache = s.cache := rfl
@[simp] theorem acknowledge_snapshot (e : SrcIx) (s : State) :
    (acknowledge e s).snapshot = s.snapshot := rfl
@[simp] theorem acknowledge_credits (e : SrcIx) (s : State) :
    (acknowledge e s).credits = s.credits := rfl
@[simp] theorem acknowledge_holdTime (e : SrcIx) (s : State) :
    (acknowledge e s).holdTime = s.holdTime := rfl
@[simp] theorem acknowledge_lastServed (e : SrcIx) (s : State) :
    (acknowledge e s).lastServed = s.lastServed := rfl
@[simp] theorem acknowledge_outSeq (e : SrcIx) (s : State) :
    (acknowledge e s).outSeq = s.outSeq := rfl
@[simp] theorem acknowledge_sending (e : SrcIx) (s : State) :
    (acknowledge e s).sending = s.sending := rfl
@[simp] theorem acknowledge_windows (e : SrcIx) (s : State) :
    (acknowledge e s).windows = s.windows := rfl
@[simp] theorem acknowledge_profiles (e : SrcIx) (s : State) :
    (acknowledge e s).profiles = s.profiles := rfl
@[simp] theorem acknowledge_slots (e : SrcIx) (s : State) :
    (acknowledge e s).slots = s.slots := rfl
@[simp] theorem acknowledge_queues (e : SrcIx) (s : State) :
    (acknowledge e s).queues = s.queues := rfl
@[simp] theorem acknowledge_delivery (e : SrcIx) (s : State) :
    (acknowledge e s).delivery = s.delivery := rfl
@[simp] theorem acknowledge_discards (e : SrcIx) (s : State) :
    (acknowledge e s).discards = s.discards := rfl
@[simp] theorem acknowledge_lanes (e : SrcIx) (s : State) :
    (acknowledge e s).lanes = s.lanes := rfl
@[simp] theorem acknowledge_sources (e : SrcIx) (s : State) :
    (acknowledge e s).sources = s.sources.set e.val s.sources[e.val].acknowledged := rfl
@[simp] theorem acknowledge_filters (e : SrcIx) (s : State) :
    (acknowledge e s).filters = s.filters := rfl
@[simp] theorem acknowledge_notices (e : SrcIx) (s : State) :
    (acknowledge e s).notices = if s.sources[e.val].reported < s.sources[e.val].count then s.notices ++ [e]
        else s.notices := rfl
@[simp] theorem acknowledge_loadOutcome (e : SrcIx) (s : State) :
    (acknowledge e s).loadOutcome = s.loadOutcome := rfl
@[simp] theorem acknowledge_failureCode (e : SrcIx) (s : State) :
    (acknowledge e s).failureCode = s.failureCode := rfl
@[simp] theorem acknowledge_loadPhase (e : SrcIx) (s : State) :
    (acknowledge e s).loadPhase = s.loadPhase := rfl
@[simp] theorem acknowledge_loadBuffer (e : SrcIx) (s : State) :
    (acknowledge e s).loadBuffer = s.loadBuffer := rfl
@[simp] theorem acknowledge_bootRead (e : SrcIx) (s : State) :
    (acknowledge e s).bootRead = s.bootRead := rfl
@[simp] theorem acknowledge_freeCount (e : SrcIx) (s : State) :
    (acknowledge e s).freeCount = s.freeCount := rfl
@[simp] theorem acknowledge_lkAtGrant (e : SrcIx) (s : State) :
    (acknowledge e s).lkAtGrant = s.lkAtGrant := rfl
@[simp] theorem acknowledge_pending (e : SrcIx) (s : State) :
    (acknowledge e s).pending = s.pending := rfl

/-! ### freeDone -/

@[simp] theorem freeDone_inReset (tag : Tag) (s : State) :
    (freeDone tag s).inReset = s.inReset := rfl
@[simp] theorem freeDone_rdy (tag : Tag) (s : State) :
    (freeDone tag s).rdy = s.rdy := rfl
@[simp] theorem freeDone_lk (tag : Tag) (s : State) :
    (freeDone tag s).lk = s.lk := rfl
@[simp] theorem freeDone_alertn (tag : Tag) (s : State) :
    (freeDone tag s).alertn = s.alertn := rfl
@[simp] theorem freeDone_rateCode (tag : Tag) (s : State) :
    (freeDone tag s).rateCode = s.rateCode := rfl
@[simp] theorem freeDone_cfgsrc (tag : Tag) (s : State) :
    (freeDone tag s).cfgsrc = s.cfgsrc := rfl
@[simp] theorem freeDone_link (tag : Tag) (s : State) :
    (freeDone tag s).link = s.link := rfl
@[simp] theorem freeDone_session (tag : Tag) (s : State) :
    (freeDone tag s).session = s.session := rfl
@[simp] theorem freeDone_receiver (tag : Tag) (s : State) :
    (freeDone tag s).receiver = s.receiver := rfl
@[simp] theorem freeDone_inbound (tag : Tag) (s : State) :
    (freeDone tag s).inbound = s.inbound := rfl
@[simp] theorem freeDone_replies (tag : Tag) (s : State) :
    (freeDone tag s).replies = s.replies := rfl
@[simp] theorem freeDone_cache (tag : Tag) (s : State) :
    (freeDone tag s).cache = s.cache := rfl
@[simp] theorem freeDone_snapshot (tag : Tag) (s : State) :
    (freeDone tag s).snapshot = s.snapshot := rfl
@[simp] theorem freeDone_credits (tag : Tag) (s : State) :
    (freeDone tag s).credits = s.credits := rfl
@[simp] theorem freeDone_holdTime (tag : Tag) (s : State) :
    (freeDone tag s).holdTime = s.holdTime := rfl
@[simp] theorem freeDone_lastServed (tag : Tag) (s : State) :
    (freeDone tag s).lastServed = s.lastServed := rfl
@[simp] theorem freeDone_outSeq (tag : Tag) (s : State) :
    (freeDone tag s).outSeq = s.outSeq := rfl
@[simp] theorem freeDone_sending (tag : Tag) (s : State) :
    (freeDone tag s).sending = s.sending := rfl
@[simp] theorem freeDone_windows (tag : Tag) (s : State) :
    (freeDone tag s).windows = s.windows := rfl
@[simp] theorem freeDone_profiles (tag : Tag) (s : State) :
    (freeDone tag s).profiles = s.profiles := rfl
@[simp] theorem freeDone_slots (tag : Tag) (s : State) :
    (freeDone tag s).slots = s.slots.set tag.val Slot.freed := rfl
@[simp] theorem freeDone_queues (tag : Tag) (s : State) :
    (freeDone tag s).queues = s.queues := rfl
@[simp] theorem freeDone_delivery (tag : Tag) (s : State) :
    (freeDone tag s).delivery = s.delivery.filter (· != tag) := rfl
@[simp] theorem freeDone_discards (tag : Tag) (s : State) :
    (freeDone tag s).discards = s.discards := rfl
@[simp] theorem freeDone_lanes (tag : Tag) (s : State) :
    (freeDone tag s).lanes = s.lanes := rfl
@[simp] theorem freeDone_sources (tag : Tag) (s : State) :
    (freeDone tag s).sources = s.sources := rfl
@[simp] theorem freeDone_filters (tag : Tag) (s : State) :
    (freeDone tag s).filters = s.filters := rfl
@[simp] theorem freeDone_notices (tag : Tag) (s : State) :
    (freeDone tag s).notices = s.notices := rfl
@[simp] theorem freeDone_loadOutcome (tag : Tag) (s : State) :
    (freeDone tag s).loadOutcome = s.loadOutcome := rfl
@[simp] theorem freeDone_failureCode (tag : Tag) (s : State) :
    (freeDone tag s).failureCode = s.failureCode := rfl
@[simp] theorem freeDone_loadPhase (tag : Tag) (s : State) :
    (freeDone tag s).loadPhase = s.loadPhase := rfl
@[simp] theorem freeDone_loadBuffer (tag : Tag) (s : State) :
    (freeDone tag s).loadBuffer = s.loadBuffer := rfl
@[simp] theorem freeDone_bootRead (tag : Tag) (s : State) :
    (freeDone tag s).bootRead = s.bootRead := rfl
@[simp] theorem freeDone_freeCount (tag : Tag) (s : State) :
    (freeDone tag s).freeCount = s.freeCount := rfl
@[simp] theorem freeDone_lkAtGrant (tag : Tag) (s : State) :
    (freeDone tag s).lkAtGrant = s.lkAtGrant := rfl
@[simp] theorem freeDone_pending (tag : Tag) (s : State) :
    (freeDone tag s).pending = s.pending := rfl

/-! ### listDiscard -/

@[simp] theorem listDiscard_inReset (tag : Tag) (s : State) :
    (listDiscard tag s).inReset = s.inReset := rfl
@[simp] theorem listDiscard_rdy (tag : Tag) (s : State) :
    (listDiscard tag s).rdy = s.rdy := rfl
@[simp] theorem listDiscard_lk (tag : Tag) (s : State) :
    (listDiscard tag s).lk = s.lk := rfl
@[simp] theorem listDiscard_alertn (tag : Tag) (s : State) :
    (listDiscard tag s).alertn = s.alertn := rfl
@[simp] theorem listDiscard_rateCode (tag : Tag) (s : State) :
    (listDiscard tag s).rateCode = s.rateCode := rfl
@[simp] theorem listDiscard_cfgsrc (tag : Tag) (s : State) :
    (listDiscard tag s).cfgsrc = s.cfgsrc := rfl
@[simp] theorem listDiscard_link (tag : Tag) (s : State) :
    (listDiscard tag s).link = s.link := rfl
@[simp] theorem listDiscard_session (tag : Tag) (s : State) :
    (listDiscard tag s).session = s.session := rfl
@[simp] theorem listDiscard_receiver (tag : Tag) (s : State) :
    (listDiscard tag s).receiver = s.receiver := rfl
@[simp] theorem listDiscard_inbound (tag : Tag) (s : State) :
    (listDiscard tag s).inbound = s.inbound := rfl
@[simp] theorem listDiscard_replies (tag : Tag) (s : State) :
    (listDiscard tag s).replies = s.replies := rfl
@[simp] theorem listDiscard_cache (tag : Tag) (s : State) :
    (listDiscard tag s).cache = s.cache := rfl
@[simp] theorem listDiscard_snapshot (tag : Tag) (s : State) :
    (listDiscard tag s).snapshot = s.snapshot := rfl
@[simp] theorem listDiscard_credits (tag : Tag) (s : State) :
    (listDiscard tag s).credits = s.credits := rfl
@[simp] theorem listDiscard_holdTime (tag : Tag) (s : State) :
    (listDiscard tag s).holdTime = s.holdTime := rfl
@[simp] theorem listDiscard_lastServed (tag : Tag) (s : State) :
    (listDiscard tag s).lastServed = s.lastServed := rfl
@[simp] theorem listDiscard_outSeq (tag : Tag) (s : State) :
    (listDiscard tag s).outSeq = s.outSeq := rfl
@[simp] theorem listDiscard_sending (tag : Tag) (s : State) :
    (listDiscard tag s).sending = s.sending := rfl
@[simp] theorem listDiscard_windows (tag : Tag) (s : State) :
    (listDiscard tag s).windows = s.windows := rfl
@[simp] theorem listDiscard_profiles (tag : Tag) (s : State) :
    (listDiscard tag s).profiles = s.profiles := rfl
@[simp] theorem listDiscard_slots (tag : Tag) (s : State) :
    (listDiscard tag s).slots = s.slots := rfl
@[simp] theorem listDiscard_queues (tag : Tag) (s : State) :
    (listDiscard tag s).queues = s.queues := rfl
@[simp] theorem listDiscard_delivery (tag : Tag) (s : State) :
    (listDiscard tag s).delivery = s.delivery := rfl
@[simp] theorem listDiscard_discards (tag : Tag) (s : State) :
    (listDiscard tag s).discards = (if 8 ≤ s.discards.length then s.discards.drop 1 else s.discards) ++ [tag] := rfl
@[simp] theorem listDiscard_lanes (tag : Tag) (s : State) :
    (listDiscard tag s).lanes = s.lanes := rfl
@[simp] theorem listDiscard_sources (tag : Tag) (s : State) :
    (listDiscard tag s).sources = s.sources := rfl
@[simp] theorem listDiscard_filters (tag : Tag) (s : State) :
    (listDiscard tag s).filters = s.filters := rfl
@[simp] theorem listDiscard_notices (tag : Tag) (s : State) :
    (listDiscard tag s).notices = s.notices := rfl
@[simp] theorem listDiscard_loadOutcome (tag : Tag) (s : State) :
    (listDiscard tag s).loadOutcome = s.loadOutcome := rfl
@[simp] theorem listDiscard_failureCode (tag : Tag) (s : State) :
    (listDiscard tag s).failureCode = s.failureCode := rfl
@[simp] theorem listDiscard_loadPhase (tag : Tag) (s : State) :
    (listDiscard tag s).loadPhase = s.loadPhase := rfl
@[simp] theorem listDiscard_loadBuffer (tag : Tag) (s : State) :
    (listDiscard tag s).loadBuffer = s.loadBuffer := rfl
@[simp] theorem listDiscard_bootRead (tag : Tag) (s : State) :
    (listDiscard tag s).bootRead = s.bootRead := rfl
@[simp] theorem listDiscard_freeCount (tag : Tag) (s : State) :
    (listDiscard tag s).freeCount = s.freeCount := rfl
@[simp] theorem listDiscard_lkAtGrant (tag : Tag) (s : State) :
    (listDiscard tag s).lkAtGrant = s.lkAtGrant := rfl
@[simp] theorem listDiscard_pending (tag : Tag) (s : State) :
    (listDiscard tag s).pending = s.pending := rfl

/-! ### driveAlert -/

@[simp] theorem driveAlert_inReset (s : State) :
    (driveAlert s).inReset = s.inReset := rfl
@[simp] theorem driveAlert_rdy (s : State) :
    (driveAlert s).rdy = s.rdy := rfl
@[simp] theorem driveAlert_lk (s : State) :
    (driveAlert s).lk = s.lk := rfl
@[simp] theorem driveAlert_alertn (s : State) :
    (driveAlert s).alertn = !alertCondition s := rfl
@[simp] theorem driveAlert_rateCode (s : State) :
    (driveAlert s).rateCode = s.rateCode := rfl
@[simp] theorem driveAlert_cfgsrc (s : State) :
    (driveAlert s).cfgsrc = s.cfgsrc := rfl
@[simp] theorem driveAlert_link (s : State) :
    (driveAlert s).link = s.link := rfl
@[simp] theorem driveAlert_session (s : State) :
    (driveAlert s).session = s.session := rfl
@[simp] theorem driveAlert_receiver (s : State) :
    (driveAlert s).receiver = s.receiver := rfl
@[simp] theorem driveAlert_inbound (s : State) :
    (driveAlert s).inbound = s.inbound := rfl
@[simp] theorem driveAlert_replies (s : State) :
    (driveAlert s).replies = s.replies := rfl
@[simp] theorem driveAlert_cache (s : State) :
    (driveAlert s).cache = s.cache := rfl
@[simp] theorem driveAlert_snapshot (s : State) :
    (driveAlert s).snapshot = s.snapshot := rfl
@[simp] theorem driveAlert_credits (s : State) :
    (driveAlert s).credits = s.credits := rfl
@[simp] theorem driveAlert_holdTime (s : State) :
    (driveAlert s).holdTime = s.holdTime := rfl
@[simp] theorem driveAlert_lastServed (s : State) :
    (driveAlert s).lastServed = s.lastServed := rfl
@[simp] theorem driveAlert_outSeq (s : State) :
    (driveAlert s).outSeq = s.outSeq := rfl
@[simp] theorem driveAlert_sending (s : State) :
    (driveAlert s).sending = s.sending := rfl
@[simp] theorem driveAlert_windows (s : State) :
    (driveAlert s).windows = s.windows := rfl
@[simp] theorem driveAlert_profiles (s : State) :
    (driveAlert s).profiles = s.profiles := rfl
@[simp] theorem driveAlert_slots (s : State) :
    (driveAlert s).slots = s.slots := rfl
@[simp] theorem driveAlert_queues (s : State) :
    (driveAlert s).queues = s.queues := rfl
@[simp] theorem driveAlert_delivery (s : State) :
    (driveAlert s).delivery = s.delivery := rfl
@[simp] theorem driveAlert_discards (s : State) :
    (driveAlert s).discards = s.discards := rfl
@[simp] theorem driveAlert_lanes (s : State) :
    (driveAlert s).lanes = s.lanes := rfl
@[simp] theorem driveAlert_sources (s : State) :
    (driveAlert s).sources = s.sources := rfl
@[simp] theorem driveAlert_filters (s : State) :
    (driveAlert s).filters = s.filters := rfl
@[simp] theorem driveAlert_notices (s : State) :
    (driveAlert s).notices = s.notices := rfl
@[simp] theorem driveAlert_loadOutcome (s : State) :
    (driveAlert s).loadOutcome = s.loadOutcome := rfl
@[simp] theorem driveAlert_failureCode (s : State) :
    (driveAlert s).failureCode = s.failureCode := rfl
@[simp] theorem driveAlert_loadPhase (s : State) :
    (driveAlert s).loadPhase = s.loadPhase := rfl
@[simp] theorem driveAlert_loadBuffer (s : State) :
    (driveAlert s).loadBuffer = s.loadBuffer := rfl
@[simp] theorem driveAlert_bootRead (s : State) :
    (driveAlert s).bootRead = s.bootRead := rfl
@[simp] theorem driveAlert_freeCount (s : State) :
    (driveAlert s).freeCount = s.freeCount := rfl
@[simp] theorem driveAlert_lkAtGrant (s : State) :
    (driveAlert s).lkAtGrant = s.lkAtGrant := rfl
@[simp] theorem driveAlert_pending (s : State) :
    (driveAlert s).pending = s.pending := rfl

/-! ### chooseReply -/

@[simp] theorem chooseReply_inReset (f : Frame) (rest : List Frame) (s : State) :
    (chooseReply f rest s).inReset = s.inReset := rfl
@[simp] theorem chooseReply_rdy (f : Frame) (rest : List Frame) (s : State) :
    (chooseReply f rest s).rdy = s.rdy := rfl
@[simp] theorem chooseReply_lk (f : Frame) (rest : List Frame) (s : State) :
    (chooseReply f rest s).lk = s.lk := rfl
@[simp] theorem chooseReply_alertn (f : Frame) (rest : List Frame) (s : State) :
    (chooseReply f rest s).alertn = s.alertn := rfl
@[simp] theorem chooseReply_rateCode (f : Frame) (rest : List Frame) (s : State) :
    (chooseReply f rest s).rateCode = s.rateCode := rfl
@[simp] theorem chooseReply_cfgsrc (f : Frame) (rest : List Frame) (s : State) :
    (chooseReply f rest s).cfgsrc = s.cfgsrc := rfl
@[simp] theorem chooseReply_link (f : Frame) (rest : List Frame) (s : State) :
    (chooseReply f rest s).link = s.link := rfl
@[simp] theorem chooseReply_session (f : Frame) (rest : List Frame) (s : State) :
    (chooseReply f rest s).session = s.session := rfl
@[simp] theorem chooseReply_receiver (f : Frame) (rest : List Frame) (s : State) :
    (chooseReply f rest s).receiver = s.receiver := rfl
@[simp] theorem chooseReply_inbound (f : Frame) (rest : List Frame) (s : State) :
    (chooseReply f rest s).inbound = s.inbound := rfl
@[simp] theorem chooseReply_replies (f : Frame) (rest : List Frame) (s : State) :
    (chooseReply f rest s).replies = rest := rfl
@[simp] theorem chooseReply_cache (f : Frame) (rest : List Frame) (s : State) :
    (chooseReply f rest s).cache = s.cache := rfl
@[simp] theorem chooseReply_snapshot (f : Frame) (rest : List Frame) (s : State) :
    (chooseReply f rest s).snapshot = s.snapshot := rfl
@[simp] theorem chooseReply_credits (f : Frame) (rest : List Frame) (s : State) :
    (chooseReply f rest s).credits = s.credits := rfl
@[simp] theorem chooseReply_holdTime (f : Frame) (rest : List Frame) (s : State) :
    (chooseReply f rest s).holdTime = s.holdTime := rfl
@[simp] theorem chooseReply_lastServed (f : Frame) (rest : List Frame) (s : State) :
    (chooseReply f rest s).lastServed = s.lastServed := rfl
@[simp] theorem chooseReply_outSeq (f : Frame) (rest : List Frame) (s : State) :
    (chooseReply f rest s).outSeq = s.outSeq := rfl
@[simp] theorem chooseReply_sending (f : Frame) (rest : List Frame) (s : State) :
    (chooseReply f rest s).sending = some f.wire := rfl
@[simp] theorem chooseReply_windows (f : Frame) (rest : List Frame) (s : State) :
    (chooseReply f rest s).windows = s.windows := rfl
@[simp] theorem chooseReply_profiles (f : Frame) (rest : List Frame) (s : State) :
    (chooseReply f rest s).profiles = s.profiles := rfl
@[simp] theorem chooseReply_slots (f : Frame) (rest : List Frame) (s : State) :
    (chooseReply f rest s).slots = s.slots := rfl
@[simp] theorem chooseReply_queues (f : Frame) (rest : List Frame) (s : State) :
    (chooseReply f rest s).queues = s.queues := rfl
@[simp] theorem chooseReply_delivery (f : Frame) (rest : List Frame) (s : State) :
    (chooseReply f rest s).delivery = s.delivery := rfl
@[simp] theorem chooseReply_discards (f : Frame) (rest : List Frame) (s : State) :
    (chooseReply f rest s).discards = s.discards := rfl
@[simp] theorem chooseReply_lanes (f : Frame) (rest : List Frame) (s : State) :
    (chooseReply f rest s).lanes = s.lanes := rfl
@[simp] theorem chooseReply_sources (f : Frame) (rest : List Frame) (s : State) :
    (chooseReply f rest s).sources = s.sources := rfl
@[simp] theorem chooseReply_filters (f : Frame) (rest : List Frame) (s : State) :
    (chooseReply f rest s).filters = s.filters := rfl
@[simp] theorem chooseReply_notices (f : Frame) (rest : List Frame) (s : State) :
    (chooseReply f rest s).notices = s.notices := rfl
@[simp] theorem chooseReply_loadOutcome (f : Frame) (rest : List Frame) (s : State) :
    (chooseReply f rest s).loadOutcome = s.loadOutcome := rfl
@[simp] theorem chooseReply_failureCode (f : Frame) (rest : List Frame) (s : State) :
    (chooseReply f rest s).failureCode = s.failureCode := rfl
@[simp] theorem chooseReply_loadPhase (f : Frame) (rest : List Frame) (s : State) :
    (chooseReply f rest s).loadPhase = s.loadPhase := rfl
@[simp] theorem chooseReply_loadBuffer (f : Frame) (rest : List Frame) (s : State) :
    (chooseReply f rest s).loadBuffer = s.loadBuffer := rfl
@[simp] theorem chooseReply_bootRead (f : Frame) (rest : List Frame) (s : State) :
    (chooseReply f rest s).bootRead = s.bootRead := rfl
@[simp] theorem chooseReply_freeCount (f : Frame) (rest : List Frame) (s : State) :
    (chooseReply f rest s).freeCount = s.freeCount := rfl
@[simp] theorem chooseReply_lkAtGrant (f : Frame) (rest : List Frame) (s : State) :
    (chooseReply f rest s).lkAtGrant = s.lkAtGrant := rfl
@[simp] theorem chooseReply_pending (f : Frame) (rest : List Frame) (s : State) :
    (chooseReply f rest s).pending = s.pending := rfl

/-! ### choosePush -/

@[simp] theorem choosePush_inReset (tag : Tag) (s : State) :
    (choosePush tag s).inReset = s.inReset := rfl
@[simp] theorem choosePush_rdy (tag : Tag) (s : State) :
    (choosePush tag s).rdy = s.rdy := rfl
@[simp] theorem choosePush_lk (tag : Tag) (s : State) :
    (choosePush tag s).lk = s.lk := rfl
@[simp] theorem choosePush_alertn (tag : Tag) (s : State) :
    (choosePush tag s).alertn = s.alertn := rfl
@[simp] theorem choosePush_rateCode (tag : Tag) (s : State) :
    (choosePush tag s).rateCode = s.rateCode := rfl
@[simp] theorem choosePush_cfgsrc (tag : Tag) (s : State) :
    (choosePush tag s).cfgsrc = s.cfgsrc := rfl
@[simp] theorem choosePush_link (tag : Tag) (s : State) :
    (choosePush tag s).link = s.link := rfl
@[simp] theorem choosePush_session (tag : Tag) (s : State) :
    (choosePush tag s).session = s.session := rfl
@[simp] theorem choosePush_receiver (tag : Tag) (s : State) :
    (choosePush tag s).receiver = s.receiver := rfl
@[simp] theorem choosePush_inbound (tag : Tag) (s : State) :
    (choosePush tag s).inbound = s.inbound := rfl
@[simp] theorem choosePush_replies (tag : Tag) (s : State) :
    (choosePush tag s).replies = s.replies := rfl
@[simp] theorem choosePush_cache (tag : Tag) (s : State) :
    (choosePush tag s).cache = s.cache := rfl
@[simp] theorem choosePush_snapshot (tag : Tag) (s : State) :
    (choosePush tag s).snapshot = s.snapshot := rfl
@[simp] theorem choosePush_credits (tag : Tag) (s : State) :
    (choosePush tag s).credits = s.credits - 1 := rfl
@[simp] theorem choosePush_holdTime (tag : Tag) (s : State) :
    (choosePush tag s).holdTime = s.holdTime := rfl
@[simp] theorem choosePush_lastServed (tag : Tag) (s : State) :
    (choosePush tag s).lastServed = .completion := rfl
@[simp] theorem choosePush_outSeq (tag : Tag) (s : State) :
    (choosePush tag s).outSeq = s.outSeq + 1 := rfl
@[simp] theorem choosePush_sending (tag : Tag) (s : State) :
    (choosePush tag s).sending = some (completionFrame tag s).wire := rfl
@[simp] theorem choosePush_windows (tag : Tag) (s : State) :
    (choosePush tag s).windows = s.windows := rfl
@[simp] theorem choosePush_profiles (tag : Tag) (s : State) :
    (choosePush tag s).profiles = s.profiles := rfl
@[simp] theorem choosePush_slots (tag : Tag) (s : State) :
    (choosePush tag s).slots = s.slots.set tag.val Slot.freed := rfl
@[simp] theorem choosePush_queues (tag : Tag) (s : State) :
    (choosePush tag s).queues = s.queues := rfl
@[simp] theorem choosePush_delivery (tag : Tag) (s : State) :
    (choosePush tag s).delivery = s.delivery.filter (· != tag) := rfl
@[simp] theorem choosePush_discards (tag : Tag) (s : State) :
    (choosePush tag s).discards = s.discards := rfl
@[simp] theorem choosePush_lanes (tag : Tag) (s : State) :
    (choosePush tag s).lanes = s.lanes := rfl
@[simp] theorem choosePush_sources (tag : Tag) (s : State) :
    (choosePush tag s).sources = s.sources := rfl
@[simp] theorem choosePush_filters (tag : Tag) (s : State) :
    (choosePush tag s).filters = s.filters := rfl
@[simp] theorem choosePush_notices (tag : Tag) (s : State) :
    (choosePush tag s).notices = s.notices := rfl
@[simp] theorem choosePush_loadOutcome (tag : Tag) (s : State) :
    (choosePush tag s).loadOutcome = s.loadOutcome := rfl
@[simp] theorem choosePush_failureCode (tag : Tag) (s : State) :
    (choosePush tag s).failureCode = s.failureCode := rfl
@[simp] theorem choosePush_loadPhase (tag : Tag) (s : State) :
    (choosePush tag s).loadPhase = s.loadPhase := rfl
@[simp] theorem choosePush_loadBuffer (tag : Tag) (s : State) :
    (choosePush tag s).loadBuffer = s.loadBuffer := rfl
@[simp] theorem choosePush_bootRead (tag : Tag) (s : State) :
    (choosePush tag s).bootRead = s.bootRead := rfl
@[simp] theorem choosePush_freeCount (tag : Tag) (s : State) :
    (choosePush tag s).freeCount = s.freeCount := rfl
@[simp] theorem choosePush_lkAtGrant (tag : Tag) (s : State) :
    (choosePush tag s).lkAtGrant = s.lkAtGrant := rfl
@[simp] theorem choosePush_pending (tag : Tag) (s : State) :
    (choosePush tag s).pending = s.pending := rfl

/-! ### chooseNotice -/

@[simp] theorem chooseNotice_inReset (e : SrcIx) (rest : List SrcIx) (s : State) :
    (chooseNotice e rest s).inReset = s.inReset := rfl
@[simp] theorem chooseNotice_rdy (e : SrcIx) (rest : List SrcIx) (s : State) :
    (chooseNotice e rest s).rdy = s.rdy := rfl
@[simp] theorem chooseNotice_lk (e : SrcIx) (rest : List SrcIx) (s : State) :
    (chooseNotice e rest s).lk = s.lk := rfl
@[simp] theorem chooseNotice_alertn (e : SrcIx) (rest : List SrcIx) (s : State) :
    (chooseNotice e rest s).alertn = s.alertn := rfl
@[simp] theorem chooseNotice_rateCode (e : SrcIx) (rest : List SrcIx) (s : State) :
    (chooseNotice e rest s).rateCode = s.rateCode := rfl
@[simp] theorem chooseNotice_cfgsrc (e : SrcIx) (rest : List SrcIx) (s : State) :
    (chooseNotice e rest s).cfgsrc = s.cfgsrc := rfl
@[simp] theorem chooseNotice_link (e : SrcIx) (rest : List SrcIx) (s : State) :
    (chooseNotice e rest s).link = s.link := rfl
@[simp] theorem chooseNotice_session (e : SrcIx) (rest : List SrcIx) (s : State) :
    (chooseNotice e rest s).session = s.session := rfl
@[simp] theorem chooseNotice_receiver (e : SrcIx) (rest : List SrcIx) (s : State) :
    (chooseNotice e rest s).receiver = s.receiver := rfl
@[simp] theorem chooseNotice_inbound (e : SrcIx) (rest : List SrcIx) (s : State) :
    (chooseNotice e rest s).inbound = s.inbound := rfl
@[simp] theorem chooseNotice_replies (e : SrcIx) (rest : List SrcIx) (s : State) :
    (chooseNotice e rest s).replies = s.replies := rfl
@[simp] theorem chooseNotice_cache (e : SrcIx) (rest : List SrcIx) (s : State) :
    (chooseNotice e rest s).cache = s.cache := rfl
@[simp] theorem chooseNotice_snapshot (e : SrcIx) (rest : List SrcIx) (s : State) :
    (chooseNotice e rest s).snapshot = s.snapshot := rfl
@[simp] theorem chooseNotice_credits (e : SrcIx) (rest : List SrcIx) (s : State) :
    (chooseNotice e rest s).credits = s.credits - 1 := rfl
@[simp] theorem chooseNotice_holdTime (e : SrcIx) (rest : List SrcIx) (s : State) :
    (chooseNotice e rest s).holdTime = s.holdTime := rfl
@[simp] theorem chooseNotice_lastServed (e : SrcIx) (rest : List SrcIx) (s : State) :
    (chooseNotice e rest s).lastServed = .notice := rfl
@[simp] theorem chooseNotice_outSeq (e : SrcIx) (rest : List SrcIx) (s : State) :
    (chooseNotice e rest s).outSeq = s.outSeq + 1 := rfl
@[simp] theorem chooseNotice_sending (e : SrcIx) (rest : List SrcIx) (s : State) :
    (chooseNotice e rest s).sending = some (noticeFrame e s).wire := rfl
@[simp] theorem chooseNotice_windows (e : SrcIx) (rest : List SrcIx) (s : State) :
    (chooseNotice e rest s).windows = s.windows := rfl
@[simp] theorem chooseNotice_profiles (e : SrcIx) (rest : List SrcIx) (s : State) :
    (chooseNotice e rest s).profiles = s.profiles := rfl
@[simp] theorem chooseNotice_slots (e : SrcIx) (rest : List SrcIx) (s : State) :
    (chooseNotice e rest s).slots = s.slots := rfl
@[simp] theorem chooseNotice_queues (e : SrcIx) (rest : List SrcIx) (s : State) :
    (chooseNotice e rest s).queues = s.queues := rfl
@[simp] theorem chooseNotice_delivery (e : SrcIx) (rest : List SrcIx) (s : State) :
    (chooseNotice e rest s).delivery = s.delivery := rfl
@[simp] theorem chooseNotice_discards (e : SrcIx) (rest : List SrcIx) (s : State) :
    (chooseNotice e rest s).discards = s.discards := rfl
@[simp] theorem chooseNotice_lanes (e : SrcIx) (rest : List SrcIx) (s : State) :
    (chooseNotice e rest s).lanes = s.lanes := rfl
@[simp] theorem chooseNotice_sources (e : SrcIx) (rest : List SrcIx) (s : State) :
    (chooseNotice e rest s).sources = s.sources.set e.val s.sources[e.val].delivered := rfl
@[simp] theorem chooseNotice_filters (e : SrcIx) (rest : List SrcIx) (s : State) :
    (chooseNotice e rest s).filters = s.filters := rfl
@[simp] theorem chooseNotice_notices (e : SrcIx) (rest : List SrcIx) (s : State) :
    (chooseNotice e rest s).notices = rest := rfl
@[simp] theorem chooseNotice_loadOutcome (e : SrcIx) (rest : List SrcIx) (s : State) :
    (chooseNotice e rest s).loadOutcome = s.loadOutcome := rfl
@[simp] theorem chooseNotice_failureCode (e : SrcIx) (rest : List SrcIx) (s : State) :
    (chooseNotice e rest s).failureCode = s.failureCode := rfl
@[simp] theorem chooseNotice_loadPhase (e : SrcIx) (rest : List SrcIx) (s : State) :
    (chooseNotice e rest s).loadPhase = s.loadPhase := rfl
@[simp] theorem chooseNotice_loadBuffer (e : SrcIx) (rest : List SrcIx) (s : State) :
    (chooseNotice e rest s).loadBuffer = s.loadBuffer := rfl
@[simp] theorem chooseNotice_bootRead (e : SrcIx) (rest : List SrcIx) (s : State) :
    (chooseNotice e rest s).bootRead = s.bootRead := rfl
@[simp] theorem chooseNotice_freeCount (e : SrcIx) (rest : List SrcIx) (s : State) :
    (chooseNotice e rest s).freeCount = s.freeCount := rfl
@[simp] theorem chooseNotice_lkAtGrant (e : SrcIx) (rest : List SrcIx) (s : State) :
    (chooseNotice e rest s).lkAtGrant = s.lkAtGrant := rfl
@[simp] theorem chooseNotice_pending (e : SrcIx) (rest : List SrcIx) (s : State) :
    (chooseNotice e rest s).pending = s.pending := rfl

end Sys2Proof.Machine
end

