-- ==== Sys2Proof/Laws/Shared.lean ====
section
/-! SUPPORT. The shared operations: what each can do, said once. -/

namespace Sys2Proof.Machine

/-! ## Occurrences, counts, ends of a slot -/

/-- A disabled source takes no occurrence (R122). -/
theorem occur_disabled {e : SrcIx} {v : BitVec 32} {s : State}
    (h : s.sources[e.val].enabled = false) : occur e v s = s := by
  simp [occur, Source.occurred, Source.joins, h]

/-- An occurrence leaves the other sources alone. -/
theorem occur_other {e x : SrcIx} {v : BitVec 32} {s : State} (h : x ≠ e) :
    (occur e v s).sources[x.val] = s.sources[x.val] := by
  have : e.val ≠ x.val := fun he => h (Fin.ext he).symm
  simp [this]

/-- The fall of a count, in one record (R16, R18). -/
theorem lowerCount_eq (i : WinIx) (s : State) :
    lowerCount i s =
      { s with
        windows := s.windows.set i.val s.windows[i.val].lowered
        sources :=
          if s.windows[i.val].drains then
            s.sources.set drainSource.val
              (s.sources[drainSource.val].occurred drainSource (maskBit i.val))
          else s.sources
        notices :=
          if s.windows[i.val].drains then
            (if s.sources[drainSource.val].joins then s.notices ++ [drainSource] else s.notices)
          else s.notices } := by
  cases h : s.windows[i.val].drains
  · simp [lowerCount, h, setWindow]
  · simp only [lowerCount, h, if_true, occur, setWindow]
    rfl

/-- The way into DONE, in one record (R64). -/
theorem enterDone_eq (tag : Tag) (status : CompStatus) (s : State) :
    enterDone tag status s =
      { lowerCount s.slots[tag.val].window s with
        slots := s.slots.set tag.val (s.slots[tag.val].finished status s.holdTime)
        queues := s.queues.set s.slots[tag.val].target.val
          (s.queues[s.slots[tag.val].target.val].filter (· != tag))
        delivery := s.delivery ++ [tag] } := by
  simp [enterDone, lowerCount_eq]

/-! ## Grants -/

/-- What a head is given by a grant: an access, a pause, or its end (R55, R56). -/
theorem actOnGrant_cases (l : LaneIx) (sel : Fin 2) (tag : Tag) (p : Profile) (s : State) :
    actOnGrant l sel tag p s = startData l sel tag p s ∨
      actOnGrant l sel tag p s = startPoll l sel tag p s ∨
      actOnGrant l sel tag p s = busyVerdict tag p s ∨
      actOnGrant l sel tag p s = enterDone tag .success s := by
  unfold actOnGrant
  split <;> first | tauto | (split <;> tauto)

/-- A property that every given grant and the fault at a grant keep, arbitration keeps. -/
theorem arbitrateFor_keeps {P : State → Prop} {l : LaneIx}
    (give : ∀ (sel : Fin 2) (o : Offer) (s : State), s.lanes[l.val].state = .idle →
      pickOffer l s = some (sel, o) → s.lk[l.val] = true → P s → P (giveGrant l sel o s))
    (fault : ∀ (sel : Fin 2) (o : Offer) (s : State), s.lanes[l.val].state = .idle →
      pickOffer l s = some (sel, o) → s.lk[l.val] = false → P s → P (faultAtGrant l o s)) :
    ∀ (n : Nat) (s : State), P s → P (arbitrateFor n l s) := by
  intro n
  induction n with
  | zero => intro s hs; exact hs
  | succ n ih =>
    intro s hs
    unfold arbitrateFor
    split
    · rename_i hidle
      split
      · exact hs
      · rename_i sel o hpick
        split
        · rename_i hlk
          exact ih _ (give sel o s hidle hpick hlk hs)
        · rename_i hlk
          exact fault sel o s hidle hpick (by simpa using hlk) hs
    · exact hs

/-- A lane that is not IDLE does not arbitrate (R78). -/
theorem arbitrate_not_idle {l : LaneIx} {s : State} (h : s.lanes[l.val].state ≠ .idle) :
    arbitrate l s = s := by
  simp [arbitrate, grantBound, arbitrateFor, h]

/-- A lane with nothing offered does not arbitrate (R78). -/
theorem arbitrate_no_offer {l : LaneIx} {s : State} (h : pickOffer l s = none) :
    arbitrate l s = s := by
  simp [arbitrate, grantBound, arbitrateFor, h]

/-- The offer picked is the head of its target queue, QUEUED, or the boot read (R74, R79, R83). -/
theorem pickOffer_head {l : LaneIx} {s : State} {sel : Fin 2} {tag : Tag}
    (h : pickOffer l s = some (sel, .head tag)) :
    s.slots[tag.val].state = .queued ∧ ∃ rest, s.queues[(targetAt l sel).val] = tag :: rest := by
  have off : ∀ x : Fin 2, offerAt l x s = some (.head tag) →
      s.slots[tag.val].state = .queued ∧ ∃ rest, s.queues[(targetAt l x).val] = tag :: rest := by
    intro x hx
    unfold offerAt at hx
    split at hx
    · simp at hx
    · unfold eligibleHead at hx
      split at hx
      · simp at hx
      · rename_i head rest hq
        split at hx
        · simp only [Option.map_some, Option.some.injEq, Offer.head.injEq] at hx
          subst hx
          exact ⟨by assumption, rest, hq⟩
        · simp at hx
  unfold pickOffer at h
  split at h
  · cases h
  · cases h; exact off 0 (by assumption)
  · cases h; exact off 1 (by assumption)
  · split at h <;> cases h
    · exact off 0 (by assumption)
    · exact off 1 (by assumption)

/-! ## Lane outputs -/

/-- A FAULTED lane drives none of its outputs (R77). -/
theorem outputs_faulted {l : Lane} (h : l.state = .faulted) :
    l.outputs = .steady LaneLevels.released := by
  simp [Lane.outputs, h]

/-- An IDLE lane holds the idle levels (R31, R77). -/
theorem outputs_idle {l : Lane} (h : l.state = .idle) : l.outputs = .steady LaneLevels.idle := by
  simp [Lane.outputs, h]

/-- A BUSY or RESETTING lane is driven for its access (R77). -/
theorem outputs_access {l : Lane} {a : Access} (h : l.state = .busy ∨ l.state = .resetting)
    (ha : l.access = some a) : l.outputs = .running a.levels := by
  rcases h with h | h <;> simp [Lane.outputs, h, ha]

/-- In every level of an access its select is the one that may be low: the other stays high (R31). -/
theorem levels_other_select {a : Access} {x : LaneLevels} (h : x ∈ a.levels) :
    (a.select = 0 → x.lsel1 = some true) ∧ (a.select = 1 → x.lsel0 = some true) := by
  simp only [Access.levels, List.mem_flatMap, List.mem_append, selectGap, selectPeriod, clockPeriod,
    List.mem_cons, List.not_mem_nil, or_false] at h
  obtain ⟨_, _, (rfl | rfl) | (⟨d, _, rfl | rfl⟩ | rfl)⟩ := h <;>
    constructor <;> intro hs <;> simp [LaneLevels.idle, LaneLevels.selecting, hs]

/-! ## Link reset and flush -/

/-- A property that the reset of each slot keeps, the reset of all slots keeps. -/
theorem linkResetSlots_keeps {P : State → Prop}
    (h : ∀ (tag : Tag) (s : State), P s → P (linkResetSlot s tag)) (s : State) (hs : P s) :
    P (linkResetSlots s) := by
  have : ∀ (tags : List Tag) (s : State), P s → P (tags.foldl linkResetSlot s) := by
    intro tags
    induction tags with
    | nil => intro s hs; exact hs
    | cons x xs ih => intro s hs; exact ih _ (h x s hs)
  exact this allTags s hs

/-- A property that the flush of each slot keeps, the flush of a lane keeps. -/
theorem flushLane_keeps {P : State → Prop} (l : LaneIx)
    (h : ∀ (tag : Tag) (s : State), P s → P (flushSlot s tag)) (s : State) (hs : P s) :
    P (flushLane l s) := by
  have : ∀ (tags : List Tag) (s : State), P s → P (tags.foldl flushSlot s) := by
    intro tags
    induction tags with
    | nil => intro s hs; exact hs
    | cons x xs ih => intro s hs; exact ih _ (h x s hs)
  exact this _ _ (this _ _ hs)

/-! ## The transmitter -/

/-- A choice makes nothing, a reply, a push or a notice, and when (R111). -/
theorem choose_cases (s : State) :
    (choose s = s ∧ TransmitterSettled s) ∨
      (∃ f rest, s.sending = none ∧ s.replies = f :: rest ∧ choose s = chooseReply f rest s) ∨
      (∃ tag, s.sending = none ∧ s.replies = [] ∧ s.link = .opened ∧ 0 < s.credits ∧
        offered s = some tag ∧ choose s = choosePush tag s) ∨
      (∃ e rest, s.sending = none ∧ s.replies = [] ∧ s.link = .opened ∧ 0 < s.credits ∧
        s.notices = e :: rest ∧ choose s = chooseNotice e rest s) := by
  unfold choose
  cases hs : s.sending with
  | some b => left; exact ⟨rfl, by simp [TransmitterSettled, hs]⟩
  | none =>
    cases hr : s.replies with
    | cons f rest => right; left; exact ⟨f, rest, rfl, rfl, rfl⟩
    | nil =>
      by_cases hc : s.link = .opened ∧ 0 < s.credits
      · simp only [hc, and_self, if_true]
        unfold chooseUnsolicited
        cases ho : offered s with
        | none =>
          cases hn : s.notices with
          | nil => left; exact ⟨rfl, by simp [TransmitterSettled, hr, unsolicitedWaits, ho, hn]⟩
          | cons e rest => right; right; right; exact ⟨e, rest, by simp⟩
        | some tag =>
          cases hn : s.notices with
          | nil => right; right; left; exact ⟨tag, by simp⟩
          | cons e rest =>
            cases hp : s.lastServed with
            | completion => right; right; right; exact ⟨e, rest, by simp⟩
            | notice => right; right; left; exact ⟨tag, by simp⟩
      · left
        simp only [hc, if_false]
        refine ⟨trivial, fun _ => ⟨hr, fun h => hc ⟨h.1, h.2.1⟩⟩⟩

/-- A settled transmitter chooses nothing (R110). -/
theorem choose_settled {s : State} (h : TransmitterSettled s) : choose s = s := by
  rcases choose_cases s with ⟨h', -⟩ | ⟨f, rest, hs, hr, -⟩ | ⟨tag, hs, -, hl, hc, ho, -⟩ |
    ⟨e, rest, hs, -, hl, hc, hn, -⟩
  · exact h'
  · have := (h hs).1; simp [hr] at this
  · exact absurd ⟨hl, hc, by simp [unsolicitedWaits, ho]⟩ (h hs).2
  · exact absurd ⟨hl, hc, by simp [unsolicitedWaits, hn]⟩ (h hs).2

/-- A choice leaves the transmitter settled (R110, R111). -/
theorem choose_settles (s : State) : TransmitterSettled (choose s) := by
  rcases choose_cases s with ⟨h, hs⟩ | ⟨f, rest, -, -, h⟩ | ⟨tag, -, -, -, -, -, h⟩ |
    ⟨e, rest, -, -, -, -, -, h⟩ <;> rw [h]
  · exact hs
  all_goals intro hn; simp at hn

/-- A choice leaves the levels kept for a grant alone. -/
@[simp] theorem choose_lkAtGrant (s : State) : (choose s).lkAtGrant = s.lkAtGrant := by
  rcases choose_cases s with ⟨h, -⟩ | ⟨f, rest, -, -, h⟩ | ⟨tag, -, -, -, -, -, h⟩ |
    ⟨e, rest, -, -, -, -, -, h⟩ <;> rw [h] <;> rfl

/-- A choice leaves the inbound buffer alone. -/
@[simp] theorem choose_inbound (s : State) : (choose s).inbound = s.inbound := by
  rcases choose_cases s with ⟨h, -⟩ | ⟨f, rest, -, -, h⟩ | ⟨tag, -, -, -, -, -, h⟩ |
    ⟨e, rest, -, -, -, -, -, h⟩ <;> rw [h] <;> rfl

/-! ## Dispatch -/

/-- A property that every dispatch and every choice keeps, the settling of an event keeps. -/
theorem settle_keeps {P : State → Prop}
    (hd : ∀ (f : Frame) (rest : List Frame) (s : State), s.inbound = f :: rest →
      s.replies.length < replyCapacity → P s → P (dispatch f { s with inbound := rest }))
    (hc : ∀ s : State, P s → P (choose s)) (s : State) (hs : P s) : P (settle s) := by
  have : ∀ (n : Nat) (s : State), P s → P (dispatchFor n s) := by
    intro n
    induction n with
    | zero => intro s hs; exact hs
    | succ n ih =>
      intro s hs
      unfold dispatchFor
      split
      · exact hs
      · rename_i f rest hin
        split
        · rename_i hr
          exact ih _ (hc _ (hd f rest s hin hr hs))
        · exact hs
  exact this _ _ (hc s hs)

/-- Nothing settles when nothing waits. -/
theorem settle_quiet {s : State} (h : TransmitterSettled s) (hin : s.inbound = []) :
    settle s = s := by
  simp [settle, choose_settled h, hin, dispatchFor]

/-- An event after which nothing waits for dispatch ends with the transmitter's choice. -/
theorem settle_no_inbound {s : State} (hin : s.inbound = []) : settle s = choose s := by
  simp [settle, hin, dispatchFor]

/-- A request frame that is executed at once (R148). -/
theorem deliver_ready {f : Frame} {s : State} (h : ReadyFor f s) (hp : payloadFits f.payload = true) :
    deliver f s = .next (driveAlert (choose (executed f s))) := by
  obtain ⟨hrun, hin, hr, hts, hcache⟩ := h
  have hts' : TransmitterSettled { s with inbound := [f] } := hts
  have hs : ({ s with inbound := [] } : State) = s := by rw [← hin]
  have hoff : offerFrame f s = { s with inbound := [f] } := by
    simp [offerFrame, hin, inboundCapacity]
  have hset : settle { s with inbound := [f] } = choose (executed f s) := by
    unfold settle
    rw [choose_settled hts']
    show dispatchFor 1 { s with inbound := [f] } = _
    unfold dispatchFor
    simp only [hr, if_true]
    rw [hs]
    simp [dispatchFor, dispatch, hcache]
  unfold deliver whileRunning
  rw [if_pos hp, if_neg (by simp [hrun]), finish, hoff, hset]

/-- What an executed frame leaves once its reply is known (R148–R152). -/
theorem executed_answered {f : Frame} {s u : State} {r : Reply} (h : answer f s = (u, r)) :
    driveAlert (choose (executed f s)) = answeredWith f r u := by
  simp [executed, h, answeredWith]

/-- A KIND code names its request (R162). -/
@[simp] theorem requestOf_code (r : Request) : requestOf r.code = some r := by
  cases r <;> decide

/-- A request that the link state admits and whose payload has its length reaches its block
(R149). -/
theorem answer_served {r : Request} {seq : Byte} {payload : List Byte} {s : State}
    (hl : linkRefusal r s.link = none) (hp : lengthOk r payload = true) :
    answer (requestFrame r seq payload) s = serve r payload s := by
  simp [answer, requestFrame, hl, hp]

/-- A request that the link state refuses changes nothing (R149, R153). -/
theorem answer_refused {r : Request} {seq : Byte} {payload : List Byte} {s : State} {st : Status}
    (hl : linkRefusal r s.link = some st) :
    answer (requestFrame r seq payload) s = (s, Reply.refusal st) := by
  simp [answer, requestFrame, hl]

/-- A request of another length than its kind's changes nothing (R149). -/
theorem answer_bad_length {r : Request} {seq : Byte} {payload : List Byte} {s : State}
    (hl : linkRefusal r s.link = none) (hp : lengthOk r payload = false) :
    answer (requestFrame r seq payload) s = (s, Reply.refusal .badLength) := by
  simp [answer, requestFrame, hl, hp]

/-- The readiness of a request does not depend on the LKn levels. -/
theorem readyFor_lk {f : Frame} {s : State} {lk : LkLevels} (h : ReadyFor f s) :
    ReadyFor f { s with lk := lk } := h

/-- A request row on a part that is ready for it: one execution of its frame (R148, log 1). -/
theorem exec_request {r : Request} {seq : Byte} {payload : List Byte} {lk : LkLevels} {s : State}
    (h : ReadyFor (requestFrame r seq payload) s) (hp : payload.length ≤ 300) :
    exec (r.command seq payload lk) s =
      .next (driveAlert (choose
        (executed (requestFrame r seq payload) { s with lk := r.lkFound lk s.lk }))) := by
  have hfit : payloadFits payload = true := decide_eq_true hp
  have hrun := h.1
  have key := deliver_ready (readyFor_lk (lk := r.lkFound lk s.lk) h) hfit
  rw [← key]
  have hlk : withLk lk s = { s with lk := lk } := if_neg (by simp [hrun])
  have hresume : execLaneResume seq payload lk lk s =
      deliver (requestFrame .laneResume seq payload) (withLk lk s) := if_pos (.inl rfl)
  cases r <;> first
    | rfl
    | (show deliver _ (withLk lk s) = _; rw [hlk]; rfl)
    | (show execLaneResume seq payload lk lk s = _; rw [hresume, hlk]; rfl)

/-- A request row answered in whatever way (R149, R150). -/
theorem exec_answered {r : Request} {seq : Byte} {payload : List Byte} {lk : LkLevels}
    {s u : State} {reply : Reply} (h : ReadyFor (requestFrame r seq payload) s)
    (hp : payload.length ≤ 300)
    (ha : answer (requestFrame r seq payload) { s with lk := r.lkFound lk s.lk } = (u, reply)) :
    exec (r.command seq payload lk) s =
      .next (answeredWith (requestFrame r seq payload) reply u) := by
  rw [exec_request h hp, executed_answered ha]

/-- A request row whose block answers it (R149, R150). -/
theorem exec_served {r : Request} {seq : Byte} {payload : List Byte} {lk : LkLevels}
    {s u : State} {reply : Reply} (h : ReadyFor (requestFrame r seq payload) s)
    (hp : payload.length ≤ 300) (hl : linkRefusal r s.link = none)
    (hlen : lengthOk r payload = true)
    (hs : serve r payload { s with lk := r.lkFound lk s.lk } = (u, reply)) :
    exec (r.command seq payload lk) s =
      .next (answeredWith (requestFrame r seq payload) reply u) := by
  exact exec_answered h hp (by rw [answer_served (s := { s with lk := r.lkFound lk s.lk }) hl hlen, hs])

end Sys2Proof.Machine
end

