-- ==== Sys2Proof/Tests/Slice0.lean ====
section
/-! SUPPORT. Own tests: the well-formedness checks, one step of each command on the examples of
spec/, and for every statement with hypotheses a state and operands that meet them. -/

namespace Sys2Proof.Tests

-- One theorem at a time: many kernel evaluations side by side need more memory than one check has.
set_option Elab.async false

open Sys2Proof.Machine

/-! ## States and views -/

/-- All LKn released. -/
def high : LkLevels := Vector.replicate 4 true

/-- LKn of L0 and L2 asserted. -/
def claimed : LkLevels := (high.set 0 false).set 2 false

/-- Out of cold reset, in CLOSED. -/
def shut : State := { State.reset with inReset := false }

/-- A session without credits, its number 4. -/
def session : State := { shut with link := .opened, session := 4 }

/-- A session whose transmitter is sending. -/
def sendingSession : State := { session with sending := some [0xA9] }

/-- The serial flash on T3 (2.9.1). -/
def flash : Profile :=
  { addressBytes := 3, readOpcode := 0x0B, readDummy := 1, writeOpcode := 0x02
    writePreamble := 0x06, dataLines := 4, divider := 5, pageCode := 5
    readyMethod := .statusPoll, statusOpcode := 0x05, busyMask := 0x01, retryInterval := 20
    retryLimit := 40, attnFilter := 2 }

/-- The EEPROM on T5 (2.9.2, 3.10.2). -/
def eeprom : Profile :=
  { flash with addressBytes := 2, dataLines := 1, pageCode := 3 }

/-- The converter on T6 (3.10.1). -/
def converter : Profile :=
  { flash with readyMethod := .readyLine, retryInterval := 4, retryLimit := 2 }

/-- A register chip with ready method NONE. -/
def chip : Profile := { flash with readyMethod := .none, attnFilter := 1 }

/-- W2 on T3, as in 1.9.1. -/
def flashWindow : Window :=
  { state := .opened, base := 0x00100000, limit := 0x0013FFFF, offset := 0x00020000, target := 3
    rights := { read := true, write := true, command := false }, outstanding := 0 }

/-- W7 on T4, as in 1.9.1. -/
def chipWindow : Window :=
  { state := .opened, base := 0x00200000, limit := 0x00207FFF, offset := 0x00008000, target := 4
    rights := { read := true, write := true, command := true }, outstanding := 0 }

/-- The session of 1.9.1 with W2 on the flash and W7 on a chip at T4. -/
def tables : State :=
  { session with
    profiles := (session.profiles.set 3 (some flash)).set 4 (some chip)
    windows := (session.windows.set 2 flashWindow).set 7 chipWindow }

/-- A slot of a READ of `n` bytes from T3 through W2. -/
def readSlot (state : SlotState) (n : Nat) : Slot :=
  { Slot.freed with
    state := state, window := 2, target := 3, address := 0x20000, length := n, piecesTotal := 1
    nextPiece := 1 }

/-- The tables with one slot of T3 that stands in its queue. -/
def withTag (tag : Tag) (sl : Slot) : State :=
  { tables with
    slots := tables.slots.set tag.val sl
    queues := tables.queues.set 3 [tag]
    windows := tables.windows.set 2 { flashWindow with outstanding := 1 } }

/-- A lane record with an access. -/
def carrying (state : LaneState) (a : Access) : Lane := { state := state, pointer := 0, access := some a }

/-- The tables with one slot whose access runs on L1. -/
def onLane (tag : Tag) (sl : Slot) (a : Access) : State :=
  { withTag tag sl with lanes := tables.lanes.set 1 (carrying .busy a) }

/-- The tables with one slot DONE, its READ of `bytes` delivered to nobody yet. -/
def doneWith (tag : Tag) (bytes : List Byte) : State :=
  { tables with
    slots := tables.slots.set tag.val
      { readSlot .done bytes.length with
        progress := bytes.length, status := some .success, result := bytes, holdTimer := some 50 }
    delivery := [tag] }

/-- A source with an enabled record. -/
def withSource (e : SrcIx) (src : Source) (s : State) : State :=
  { s with sources := s.sources.set e.val src }

/-- What a next state shows; nothing of a fault or a refusal. -/
def view {α : Type} (f : State → α) : Host.Outcome State Fault Refusal → Option α
  | .next t => some (f t)
  | _ => none

/-- The fault of a command that faults. -/
def faultOf : Host.Outcome State Fault Refusal → Option Fault
  | .fault f => some f
  | _ => none

/-- The payload of the frame on HTX. -/
def sent (s : State) : List Byte := ((s.sending.getD []).drop 5).dropLast

/-- A sufficient, evaluable condition of readiness. -/
def idle (s : State) : Bool :=
  !s.inReset && s.inbound.isEmpty && s.replies.isEmpty && s.credits == 0 && s.cache.isNone

theorem ready {f : Frame} {s : State} (h : idle s = true) : ReadyFor f s := by
  simp only [idle, Bool.and_eq_true, Bool.not_eq_true', List.isEmpty_iff, beq_iff_eq,
    Option.isNone_iff_eq_none] at h
  obtain ⟨⟨⟨⟨hrun, hin⟩, hrep⟩, hcred⟩, hcache⟩ := h
  refine ⟨hrun, hin, by simp [hrep, replyCapacity], fun _ => ⟨hrep, fun hc => ?_⟩, ?_⟩
  · omega
  · simp [cachedReply, hcache]

/-! ## Well-formedness -/

theorem test_wellFormed_refuses_overlong_payload :
    (Instr.submit 1 (List.replicate 301 0) high).wellFormed = false := by decide +kernel

theorem test_wellFormed_admits_longest_payload :
    (Instr.submit 1 (List.replicate 300 0) high).wellFormed = true := by decide +kernel

theorem test_wellFormed_refuses_request_kind :
    (Instr.unknownKind 1 0x14 []).wellFormed = false := by decide

theorem test_wellFormed_admits_reserved_kind :
    (Instr.unknownKind 1 0x05 []).wellFormed = true := by decide

theorem test_overlong_faults :
    faultOf (exec (.submit 1 (List.replicate 301 0) high) session) = some .overlongPayload := by
  decide +kernel

theorem test_request_kind_faults :
    faultOf (exec (.unknownKind 1 0x14 []) session) = some .requestKind := by decide +kernel

/-! ## Codings -/

/-- 07, note under R139: CHECK of an IDENTIFY with SEQ 0x11. -/
theorem test_frame_check :
    Frame.wire { seq := 0x11, kind := 0x01, payload := [] } =
      [0xA9, 0x02, 0x00, 0x11, 0x01, 0xEC] := by decide

/-- 2.9.2: the pieces of 16, 64 and 20 bytes. -/
theorem test_pieces :
    pieceCount 3 496 100 = 3 ∧
      ([0, 16, 80].map fun done => Slot.pieceLength 3
        { Slot.freed with kind := .write, address := 496, length := 100, progress := done }) =
        [16, 64, 20] := by decide

/-- 2.9.1: the times on the lane, 4, 138 and 42 µs, in cycles of 48 MHz. -/
theorem test_access_times :
    (pollAccess 1 0 flash).ticks = 4 * 48 ∧
      (dataAccess 1 0 flash (readSlot .active 256)).ticks = 138 * 48 ∧
      (dataAccess 1 0 flash
        { readSlot .active 64 with kind := .write, writeData := List.replicate 64 0 }).ticks =
        42 * 48 := by decide +kernel

/-- R31, R77: a released lane of a FAULTED one, the idle levels of the others. -/
theorem test_lane_outputs_at_rest :
    Lane.outputs { state := .idle, pointer := 0, access := none } = .steady
        { lclk := some false, lsel0 := some true, lsel1 := some true, ld := ⟨none, none, none, none⟩ } ∧
      Lane.outputs { state := .faulted, pointer := 0, access := none } = .steady
        { lclk := none, lsel0 := none, lsel1 := none, ld := ⟨none, none, none, none⟩ } := by decide

/-- R31, R34, R39: a poll of T3 selects LSEL1.1 alone, has sixteen rising edges of LCLK1, and drives
0x05 on LD1.0 at the first eight of them. -/
theorem test_poll_levels :
    let halves := (pollAccess 1 0 flash).levels
    let rises := (halves.zip halves.tail).filterMap fun h =>
      if h.1.lclk = some false ∧ h.2.lclk = some true then some h.2 else none
    (halves.all fun h => h.lsel0 == some true) = true ∧
      (rises.all fun h => h.lsel1 == some false) = true ∧ rises.length = 16 ∧
      (rises.take 8).map (·.ld.ld0) =
        [false, false, false, false, false, true, false, true].map some := by decide +kernel

/-- R138, R160: HTX is high in cold reset; while a byte 0x01 goes out it carries the start bit, the
bits least significant first and the stop bit, and stays high. -/
theorem test_htx_levels :
    htxLevels State.reset = [true] ∧
      htxLevels { session with sending := some [1] } =
        [false, true, false, false, false, false, false, false, false, true, true] := by decide

/-! ## One step of each command, on the examples of spec/ -/

/-- R174: the tables empty, E15 enabled in ON_ACK, the frame cut off. -/
theorem test_cold_reset :
    view (fun t => (t.windows[2].state, t.profiles[3], t.sending, t.sources[15].mode, t.inReset))
        (exec .coldReset { tables with sending := some [1] }) =
      some (.free, none, none, .onAck, true) := by decide +kernel

/-- 9.8.1: the header read moves 9 bytes, 72 µs; the pointer takes select 1 (R83). -/
theorem test_cold_reset_end_header_read :
    view (fun t => ((t.lanes[0].access.map Access.ticks), t.lanes[0].pointer, t.link))
        (exec (.coldResetEnd 0 true high) State.reset) =
      some (some (72 * 48), 1, .loading) := by decide +kernel

/-- R142: a LEN byte pair of 303 is out of range. -/
theorem test_receive_byte_bad_length :
    view (fun t => (t.receiver.state, t.sources[14].detail))
        (exec (.receiveByte 1 high) (withSource 14 (Source.resting true .onDelivery)
          { session with
            receiver := { Receiver.newHunt with state := .length, lenBytes := [47], sum := 47 } })) =
      some (.hunting, 0x02) := by decide +kernel

/-- The IDENTIFY of the note under R139, its CHECK received: the reply of R159 goes out. -/
theorem test_receive_byte_identify :
    view sent (exec (.receiveByte 0xEC high)
        { session with
          receiver := { Receiver.newHunt with
            state := .check, lenBytes := [2, 0], body := [0x11, 0x01], sum := 0x14 } }) =
      some [0, 0x42, 0x4C, 0x18, 0x24, 1, 16, 8, 4, 32, 0, 1, 0, 0, 0] := by decide +kernel

/-- 6.8.2: GAP 0x08 joins CHECK 0x01. -/
theorem test_gap_timeout :
    view (fun t => (t.sources[14].count, t.sources[14].detail))
        (exec .gapTimeout (withSource 14
          { Source.resting true .onDelivery with state := .queued, count := 1, detail := 1 }
          { session with
            receiver := { Receiver.newHunt with state := .length, gapTimer := true } })) =
      some (2, 0x09) := by decide +kernel

/-- R145. -/
theorem test_line_low :
    view (fun t => (t.receiver.state, t.receiver.lineTimer))
        (exec .lineLow { session with receiver := Receiver.synced }) =
      some (.lineLow, true) := by decide +kernel

/-- R145: a rise before 1 ms is a framing fault, a HUNT error 0x10 of the new hunt. -/
theorem test_hrx_rise :
    view (fun t => (t.receiver.state, t.receiver.huntFlag, t.sources[14].detail))
        (exec .hrxRise (withSource 14 (Source.resting true .onDelivery)
          { session with receiver := Receiver.synced.fallen })) =
      some (.hunting, true, 0x10) := by decide +kernel

/-- 7.10.2: a break with work in the queues. -/
theorem test_break :
    view (fun t => (t.link, t.session, t.credits, t.inbound ++ t.replies, t.alertn))
        (exec .lineBreak
          { session with
            receiver := Receiver.newHunt.fallen, credits := 3, sending := some [1]
            inbound := [requestFrame .submit 0x31 []]
            replies := [⟨0x2F, 0x81, [0]⟩, ⟨0x30, 0x81, [0]⟩], notices := [2] }) =
      some (.closed, 4, 0, [], false) := by decide +kernel

/-- 7.10.1: the COLLECT sent again gets the copy, and slot 7 is not looked at. -/
theorem test_cache_replay :
    view sent (exec (.cacheReplay 0x20 0x15 [7])
        { session with cache := some ⟨0x20, 0x15, ⟨0x20, 0x95, [0, 7, 0, 0, 1, 0, 9]⟩⟩ }) =
      some [0, 7, 0, 0, 1, 0, 9] := by decide +kernel

/-- R173: status 17 in a frame of KIND 0xFF. -/
theorem test_unknown_kind :
    view (fun t => (t.sending.getD []).drop 3) (exec (.unknownKind 9 0x05 [1, 2]) shut) =
      some [9, 0xFF, 17, 0xE4] := by decide +kernel

/-- R159 and R138: rate code 3, a load that failed with code 10. -/
theorem test_identify :
    view (fun t => (sent t).drop 12)
        (exec (.identify 1 [])
          { shut with rateCode := 3, loadOutcome := .failed, failureCode := 10 }) =
      some [3, 2, 10] := by decide +kernel

/-- 7.10.2: the session number rises from 4 to 5, hold time 100. -/
theorem test_open :
    view (fun t => (t.link, t.session, t.holdTime, sent t))
        (exec (.openSession 1 [100]) { shut with session := 4 }) =
      some (.opened, 5, 100, [0, 5]) := by decide +kernel

/-- R154: from 255 to 1. -/
theorem test_open_wraps :
    view sent (exec (.openSession 1 [0]) { shut with session := 255 }) = some [0, 1] := by
  decide +kernel

/-- R155. -/
theorem test_close :
    view (fun t => (t.link, t.cache, t.discards, sent t))
        (exec (.closeSession 1 []) { session with discards := [3] }) =
      some (.closed, none, [], [0]) := by decide +kernel

/-- 5.11.1: CREDIT 2. -/
theorem test_credit :
    view (fun t => (t.credits, sent t)) (exec (.credit 1 [2]) session) =
      some (2, [0, 2]) := by decide +kernel

/-- 1.9.1: WIN_SET of W5 does not check overlap. -/
theorem test_win_set :
    view (fun t => (t.windows[5].state, t.windows[5].limit, sent t))
        (exec (.winSet 1 ([5, 3, 1] ++ le32 0x0013FC00 ++ le32 0x00140BFF ++ le32 0x00080000))
          tables) =
      some (.closed, 0x00140BFF, [0]) := by decide +kernel

/-- 1.9.1: WIN_OPEN of W5 is answered OVERLAP, 15. -/
theorem test_win_open_overlap :
    view sent (exec (.winOpen 1 [5])
        { tables with
          windows := tables.windows.set 5
            { flashWindow with
              state := .closed, base := 0x0013FC00, limit := 0x00140BFF, offset := 0x80000 } }) =
      some [15] := by decide +kernel

/-- 1.9.1: WIN_OPEN of W7 with offset 0x9000 is answered RANGE, 12. -/
theorem test_win_open_range :
    view sent (exec (.winOpen 1 [7])
        { tables with
          profiles := tables.profiles.set 4 (some eeprom)
          windows := tables.windows.set 7
            { chipWindow with state := .closed, offset := 0x9000 } }) =
      some [12] := by decide +kernel

/-- 10.5: WIN_CLOSE W2 with two live slots. -/
theorem test_win_close :
    view (fun t => (t.windows[2].state, sent t))
        (exec (.winClose 1 [2])
          { tables with windows := tables.windows.set 2 { flashWindow with outstanding := 2 } }) =
      some (.draining, [0, 3, 2]) := by decide +kernel

/-- R14. -/
theorem test_win_free :
    view (fun t => (t.windows[2], sent t))
        (exec (.winFree 1 [2])
          { tables with windows := tables.windows.set 2 { flashWindow with state := .closed } }) =
      some (Window.freed, [0]) := by decide +kernel

/-- R15: W2 of 1.9.1. -/
theorem test_win_query :
    view sent (exec (.winQuery 1 [2]) tables) =
      some [0, 2, 2, 3, 3, 0x00, 0x00, 0x10, 0x00, 0xFF, 0xFF, 0x13, 0x00, 0x00, 0x00, 0x02, 0x00,
        0] := by decide +kernel

/-- 6.8.2: PROF_SET of T3 with READY_LINE disables E3 and takes it out of the notice queue. -/
theorem test_prof_set :
    view (fun t => (t.sources[3], t.notices, sent t))
        (exec (.profSet 1 (3 :: { flash with readyMethod := .readyLine }.bytes))
          { withSource 3 { Source.resting true .onAck with state := .queued, count := 1 } session with
            notices := [14, 3] }) =
      some (Source.resting false .onAck, [14], [0]) := by decide +kernel

/-- 2.9.1: the flash read back; its pin is an attention input, high. -/
theorem test_prof_query :
    view sent (exec (.profQuery 1 [3]) tables) =
      some [0, 3, 1, 3, 0x0B, 1, 0x02, 0x06, 4, 5, 5, 1, 0x05, 0x01, 20, 40, 2, 0, 1] := by
  decide +kernel

/-- 1.9.1: a READ of 16 bytes at 0x00100410 goes to target address 0x020410, under a first poll. -/
theorem test_submit :
    view (fun t => (t.slots[1].address, t.slots[1].state, t.windows[2].outstanding, sent t))
        (exec (.submit 1 ([1, 0, 0] ++ le32 0x00100410 ++ le16 16) high) tables) =
      some (0x20410, .active, 1, [0]) := by decide +kernel

/-- 1.9.1: NO_WINDOW, 11, for a READ of 4 bytes at 0x00140000; ACCESS, 13, for a COMMAND at W2. -/
theorem test_submit_refused :
    view sent (exec (.submit 1 ([1, 0, 0] ++ le32 0x00140000 ++ le16 4) high) tables) = some [11] ∧
      view sent (exec (.submit 1
        ([1, 2, 0] ++ le32 0x00100000 ++ [0x20, 0, 0, 2, 0, 7, 7]) high) tables) = some [13] := by
  decide +kernel

/-- 7.10.1: COLLECT of a DONE READ. -/
theorem test_collect :
    view (fun t => (t.slots[7], t.delivery, sent t)) (exec (.collect 1 [7]) (doneWith 7 [8, 9])) =
      some (Slot.freed, [], [0, 7, 0, 0, 2, 0, 8, 9]) := by decide +kernel

/-- 5.11.2: COLLECT 1 and COLLECT 2 once tag 1 was dropped from the list. -/
theorem test_collect_discarded :
    view sent (exec (.collect 1 [1]) { session with discards := [2, 3, 5, 6, 7, 8, 12, 13] }) =
        some [7] ∧
      view sent (exec (.collect 1 [2]) { session with discards := [2, 3, 5, 6, 7, 8, 12, 13] }) =
        some [8] := by decide +kernel

/-- 5.11.2: ABORT of a PAUSED transaction ends it at once. -/
theorem test_abort :
    view (fun t => (t.slots[4].status, t.queues[3], t.windows[2].outstanding, sent t))
        (exec (.abort 1 [4] high) (withTag 4 (readSlot .paused 8))) =
      some (some .aborted, [], 0, [0]) := by decide +kernel

/-- 3.10.1: SLOT_QUERY of tag 3 after its TIMEOUT. -/
theorem test_slot_query :
    view sent (exec (.slotQuery 1 [3])
        { session with
          slots := session.slots.set 3
            { Slot.freed with state := .done, kind := .command, retryCount := 3 } }) =
      some [0, 3, 4, 2, 0, 0, 0, 3] := by decide +kernel

/-- 10.6: the FAULTED lane L2 with a waiting head for each of its targets, LK2 low. -/
def faultedLane : State :=
  { tables with
    profiles := (tables.profiles.set 4 (some chip)).set 5 (some eeprom)
    slots := (tables.slots.set 28 { readSlot .queued 4 with target := 4 }).set 27
      { readSlot .queued 32 with target := 5, kind := .write }
    queues := (tables.queues.set 4 [28]).set 5 [27]
    lanes := tables.lanes.set 2 { state := .faulted, pointer := 1, access := none } }

/-- 10.6: LANE_QUERY L2. -/
theorem test_lane_query :
    view sent (exec (.laneQuery 1 [2] claimed) faultedLane) = some [0, 2, 2, 0, 1, 1, 255] := by
  decide +kernel

/-- 10.6: LANE_RESUME is BUSY while LK2 is low; then tag 27 is granted its poll. -/
theorem test_lane_resume :
    view sent (exec (.laneResume 1 [2] claimed claimed) faultedLane) = some [1] ∧
      view (fun t => (t.lanes[2].access.bind Access.tag, t.lanes[2].pointer, t.slots[27].state))
        (exec (.laneResume 1 [2] high high) faultedLane) = some (some 27, 0, .active) := by
  decide +kernel

/-- 10.6: LK2 low again before the resume's grant: FAULTED, E12 counts 2 with detail 255. -/
theorem test_lane_resume_faults_again :
    view (fun t => (t.lanes[2].state, t.lanes[2].pointer, t.sources[12].count, t.sources[12].detail,
        sent t))
        (exec (.laneResume 1 [2] high claimed) (withSource 12
          { Source.resting true .onDelivery with state := .queued, count := 1, detail := 26 }
          faultedLane)) =
      some (.faulted, 1, 2, 255, [0]) := by decide +kernel

/-- 10.6: LANE_RESET in place of LANE_RESUME: IDLE, a flush count of 2, tag 28 first. -/
theorem test_lane_reset :
    view (fun t => (sent t, t.delivery)) (exec (.laneReset 1 [2] high) faultedLane) =
      some ([0, 0, 2], [28, 27]) := by decide +kernel

/-- 6.8.2: EVT_SET E3 of a READY_LINE target is answered WRONG_STATE, 2. -/
theorem test_evt_set :
    view sent (exec (.evtSet 1 [3, 1, 1])
        { session with
          profiles := session.profiles.set 3 (some { flash with readyMethod := .readyLine }) }) =
      some [2] := by decide +kernel

/-- 6.8.1: the first EVT_ACK E9. -/
theorem test_evt_ack :
    view (fun t => (t.sources[9].count, t.sources[9].detail, t.notices, sent t))
        (exec (.evtAck 1 [9]) (withSource 9
          { enabled := true, mode := .onAck, state := .reported, count := 3, reported := 2
            detail := 0x00100060 } session)) =
      some (1, 0x00100060, [9], [0, 1, 1]) := by decide +kernel

/-- 10.7: EVT_QUERY shows E4 with state 2, count 255 and reported count 1. -/
theorem test_evt_query :
    view (fun t => ((sent t).drop 37).take 9)
        (exec (.evtQuery 1 []) (withSource 4
          { enabled := true, mode := .onAck, state := .reported, count := 255, reported := 1
            detail := 0 } session)) =
      some [1, 1, 2, 255, 1, 0, 0, 0, 0] := by decide +kernel

/-- R187: empty tables make an image of 7 bytes. -/
theorem test_cfg_image :
    view sent (exec (.cfgImage 1 (le16 0 ++ le16 7)) session) =
      some [0, 7, 0, 0x4F, 0x43, 1, 0, 0, 0x93, 0] := by decide +kernel

/-- 5.11.1: the CREDIT reply ends with tag 3 pushable, tag 7 pull-only and E11 waiting. -/
theorem test_frame_sent :
    view (fun t => (t.credits, t.delivery, t.lastServed, t.outSeq, sent t))
        (exec (.frameSent high)
          { withSource 11 { Source.resting true .onDelivery with state := .queued, count := 1 }
              sendingSession with
            credits := 2, delivery := [3, 7], notices := [11]
            slots := (session.slots.set 3
              { readSlot .done 1 with progress := 1, result := [5] }).set 7
              { readSlot .done 0 with pullOnly := true } }) =
      some (1, [7], .completion, 1, [3, 0, 0, 1, 0, 5]) := by decide +kernel

/-- 10.5: the end of the orphan's access completes the drain of W2, E8 with 0x0004. -/
theorem test_access_end_orphan :
    view (fun t => (t.slots[16].state, t.windows[2].state, t.sources[8].detail, t.alertn))
        (exec (.accessEnd 1 [] high) (withSource 8 (Source.resting true .onDelivery)
          { onLane 16 { readSlot .orphaned 8 with kind := .write }
              (dataAccess 1 16 flash { readSlot .orphaned 8 with kind := .write }) with
            queues := tables.queues
            windows := tables.windows.set 2
              { flashWindow with state := .draining, outstanding := 1 } })) =
      some (.free, .closed, 4, false) := by decide +kernel

/-- 10.3: the READ that an ABORT found on the lane ends ABORTED with its bytes. -/
theorem test_access_end_aborted :
    view (fun t => (t.slots[24].status, t.slots[24].progress, t.slots[24].result, t.delivery))
        (exec (.accessEnd 1 [1, 2, 3] high)
          (onLane 24 { readSlot .active 3 with abortRequested := true, phase := .data }
            (dataAccess 1 24 flash (readSlot .active 3)))) =
      some (some .aborted, 3, [1, 2, 3], [24]) := by decide +kernel

/-- 10.3: LK1 asserted during the READ, E11 with detail 24. -/
theorem test_lane_fault :
    view (fun t => (t.slots[24].status, t.slots[24].progress, t.lanes[1].state,
        t.sources[11].detail))
        (exec (.laneFault 1 high) (withSource 11 (Source.resting true .onDelivery)
          (onLane 24 { readSlot .active 3 with abortRequested := true, phase := .data }
            (dataAccess 1 24 flash (readSlot .active 3))))) =
      some (some .laneFault, 0, .faulted, 24) := by decide +kernel

/-- 3.10.1: the third busy verdict passes the limit of 2; W9 is given back its count. -/
theorem test_retry_expiry :
    view (fun t => (t.slots[3].status, t.slots[3].retryCount, t.queues[6],
        t.windows[9].outstanding))
        (exec (.retryExpiry 3 high)
          { session with
            profiles := session.profiles.set 6 (some converter), rdy := session.rdy.set 6 false
            slots := session.slots.set 3
              { Slot.freed with
                state := .paused, kind := .command, window := 9, target := 6, opcode := 0x20
                readPartLength := 2, piecesTotal := 1, nextPiece := 1, retryCount := 2
                retryTimer := some 4 }
            queues := session.queues.set 6 [3]
            windows := session.windows.set 9
              { chipWindow with target := 6, outstanding := 1 } }) =
      some (some .timeout, 3, [], 0) := by decide +kernel

/-- 5.11.2: tag 13 expires after tag 12, and tag 1 is dropped. -/
theorem test_hold_expiry :
    view (fun t => (t.discards, t.sources[9].count, t.sources[9].detail))
        (exec (.holdExpiry 13) (withSource 9
          { Source.resting true .onDelivery with state := .queued, count := 1, detail := 0x1000 }
          { doneWith 13 [1] with discards := [1, 2, 3, 5, 6, 7, 8, 12] })) =
      some ([2, 3, 5, 6, 7, 8, 12, 13], 2, 0x3000) := by decide +kernel

/-- 2.9.1: RDY1.1 of the flash falls; its 100 µs filter runs. -/
theorem test_attn_fall :
    view (fun t => (t.filters[3], t.sources[3].count))
        (exec (.attnFall 3) (withSource 3 (Source.resting true .onAck) tables)) =
      some (.falling, 0) := by decide +kernel

/-- 2.9.1: a low pulse of 40 µs gives no occurrence. -/
theorem test_attn_rise :
    view (fun t => (t.filters[3], t.sources[3].count))
        (exec (.attnRise 3) (withSource 3 (Source.resting true .onAck)
          { tables with filters := tables.filters.set 3 .falling, rdy := tables.rdy.set 3 false })) =
      some (.high, 0) := by decide +kernel

/-- 2.9.1: a pin low for 100 µs gives one occurrence of E3. -/
theorem test_filter_expiry :
    view (fun t => (t.filters[3], t.sources[3].count, t.notices))
        (exec (.filterExpiry 3) (withSource 3 (Source.resting true .onAck)
          { tables with filters := tables.filters.set 3 .falling, rdy := tables.rdy.set 3 false })) =
      some (.low, 1, [3]) := by decide +kernel

/-- R144. -/
theorem test_start_bit :
    view (fun t => t.receiver) (exec .startBit { session with receiver := Receiver.synced }) =
      some { Receiver.synced with gapTimer := false } := by decide +kernel

/-! ## The image of 9.8 -/

/-- The image of 9.8.1 without its trailer. -/
def imageBody : List Byte :=
  [0x4F, 0x43, 1, 2, 3] ++
    (0 :: { eeprom with addressBytes := 3, readOpcode := 3, readDummy := 0, divider := 1,
                        pageCode := 5, retryLimit := 100, attnFilter := 0 }.bytes) ++
    (3 :: { eeprom with readOpcode := 3, readDummy := 0 }.bytes) ++
    [0, 1, 3, 0] ++ le32 0 ++ le32 0x3FFFF ++ le32 0 ++
    [1, 1, 7, 3] ++ le32 0x40000 ++ le32 0x40FFF ++ le32 0 ++
    [4, 0, 1, 3] ++ le32 0x40000 ++ le32 0x47FFF ++ le32 0x8000

/-- A body with the trailer that its sum asks for. -/
def sealed (body : List Byte) : List Byte := body ++ le16 (sum16 body)

/-- 9.8.1: 85 bytes that pass the validation. -/
theorem test_image_good :
    (sealed imageBody).length = 85 ∧ imageFailure (sealed imageBody) = none := by decide +kernel

/-- 9.8.2: the codes and offsets of the seven faults. -/
theorem test_image_faults :
    headerFailure [0x4F, 0x43, 1, 2, 17] = some ⟨3, 4⟩ ∧
      imageFailure (imageBody ++ le16 (sum16 imageBody + 1)) = some ⟨4, 83⟩ ∧
      imageFailure (sealed (imageBody.set 32 0)) = some ⟨5, 32⟩ ∧
      imageFailure (sealed (imageBody.set 54 5)) = some ⟨7, 54⟩ ∧
      imageFailure (sealed (imageBody.set 68 1)) = some ⟨8, 67⟩ ∧
      imageFailure (sealed ((imageBody.set 60 0x1F).set 64 0xF0)) = some ⟨9, 51⟩ ∧
      imageFailure (sealed ((imageBody.set 32 0).set 68 1)) = some ⟨5, 32⟩ ∧
      failureDetail ⟨9, 51⟩ = 0x00003309 := by decide +kernel

/-- A load whose last body read is on L0. -/
def loading : State :=
  { shut with
    link := .loading, loadPhase := some .body, loadBuffer := imageBody.take 5
    bootRead := some { address := 5, count := 80 }
    lanes := shut.lanes.set 0 (carrying .busy (bootAccess { address := 5, count := 80 })) }

/-- 9.8.1: after the load W0 and W1 are OPEN, W4 is CLOSED, T0 and T3 are SET, the outcome LOADED. -/
theorem test_image_applied :
    view (fun t => ([t.windows[0].state, t.windows[1].state, t.windows[4].state],
        t.profiles.toList.map Option.isSome, t.loadOutcome, t.link))
        (exec (.accessEnd 0 ((sealed imageBody).drop 5) high) loading) =
      some ([.opened, .opened, .closed],
        [true, false, false, true, false, false, false, false], .loaded, .closed) := by
  decide +kernel

/-! ## For every statement with hypotheses, a state and operands that meet them -/

theorem meets_StepRunsFrontCommand : session.pending = [] := rfl

theorem meets_WellFormedCommandsComplete :
    (Instr.unknownKind 1 0x05 []).wellFormed = true ∧
      (Instr.unknownKind 1 0x01 []).wellFormed = false := by decide

theorem meets_HeldPartKeepsItsState :
    State.reset.inReset = true ∧ (Instr.frameSent high).wellFormed = true ∧
      actsWhileHeld (.frameSent high) = false := by decide

theorem meets_ColdResetEndSamplesTheStraps :
    State.reset.inReset = true ∧
      State.reset.lanes[0] = { state := .idle, pointer := 0, access := none } ∧
      State.reset.queues[1] = [] ∧ high[0] = true ∧ claimed[0] = false := by decide +kernel

/-- The receiver in a state, with LEN and body bytes. -/
def receiving (state : RxState) (len body : List Byte) (sum : Byte) : State :=
  { session with
    receiver := { Receiver.newHunt with state := state, lenBytes := len, body := body, sum := sum } }

theorem meets_ReceiverTakesBytes :
    (session.inReset = false ∧ session.receiver.state = .hunting) ∧
      (receiving .length [] [] 0).receiver.lenBytes = [] ∧
      (2 ≤ (2 : Byte).toNat + 256 * (0 : Byte).toNat ∧
        (0x2E : Byte).toNat + 256 * (1 : Byte).toNat ≤ 302) ∧
      ((1 : Byte).toNat + 256 * (0 : Byte).toNat < 2 ∧
        302 < (0x2F : Byte).toNat + 256 * (1 : Byte).toNat) ∧
      (receiving .body [2, 0] [0x11] 0x13).receiver.lenBytes = [2, 0] ∧
      ((receiving .check [2, 0] [0x11, 1] 0x14).receiver.body = 0x11 :: 1 :: [] ∧
        (0x14 : Byte) + 0xEC = 0 ∧ (0x14 : Byte) + 0xED ≠ 0 ∧ session.inbound.length < 2) ∧
      2 ≤ ({ session with inbound := [⟨1, 1, []⟩, ⟨2, 1, []⟩] } : State).inbound.length := by
  decide +kernel

theorem meets_WireBytesOfferTheFrame :
    (List.replicate 300 (0 : Byte)).length ≤ 300 ∧ session.inReset = false ∧
      session.receiver.state = .hunting ∧ Settled session ∧ AlertLaw session := by
  unfold Settled TransmitterSettled AlertLaw
  decide +kernel

theorem meets_ReceiverTimersAndLine :
    (session.inReset = false ∧ session.receiver.state ≠ .lineLow) ∧
      Receiver.synced.gapTimer = true ∧
      (Receiver.newHunt.fallen.state = .lineLow ∧ Receiver.newHunt.fallen.lineTimer = true) ∧
      ({ Receiver.newHunt with state := .lineLow } : Receiver).lineTimer = false := by decide

/-- HRX low since less than 1 ms. -/
def lowLine (s : State) : State := { s with receiver := Receiver.newHunt.fallen }

theorem meets_BreakResetsTheLink :
    ((lowLine shut).inReset = false ∧ (lowLine shut).receiver.state = .lineLow ∧
        (lowLine shut).receiver.lineTimer = true ∧ (lowLine shut).link ≠ .loading) ∧
      (lowLine session).link ≠ .loading ∧ (lowLine loading).link = .loading := by decide +kernel

/-- W2 DRAINING with one slot of a state through it. -/
def draining (state : SlotState) : State :=
  { tables with
    slots := tables.slots.set 4 (readSlot state 8)
    windows := tables.windows.set 2 { flashWindow with state := .draining, outstanding := 1 } }

theorem meets_LinkResetOfEveryBlock :
    (CountLaw (draining .queued) ∧ (draining .queued).windows[2].state = .draining ∧
        ∀ tag : Tag, (draining .queued).slots[tag.val].window = 2 →
          (draining .queued).slots[tag.val].state ≠ .active ∧
            (draining .queued).slots[tag.val].state ≠ .orphaned) ∧
      (CountLaw (draining .orphaned) ∧ (draining .orphaned).slots[4].window = 2 ∧
        (draining .orphaned).slots[4].state = .orphaned) ∧
      (drainedBy (fun i => if i = 2 then 1 else 0) (draining .queued) = [2] ∧
        (draining .queued).sources[8].enabled = false ∧
        (withSource 8 (Source.resting true .onAck) (draining .queued)).sources[8].state = .idle ∧
        (withSource 8 { Source.resting true .onAck with state := .queued, count := 1 }
          (draining .queued)).sources[8].state ≠ .idle) := by
  unfold CountLaw
  decide +kernel

/-- Tag 3 pushable, E11 waiting, one credit. -/
def bothWait (last : FrameClass) : State :=
  { withSource 11 { Source.resting true .onDelivery with state := .queued, count := 1 }
      (doneWith 3 [5]) with
    notices := [11], credits := 1, lastServed := last, sending := some [0xA9] }

theorem meets_FrameSentMakesTheNextChoice :
    ({ sendingSession with replies := [⟨1, 0x81, [0]⟩] } : State).replies = ⟨1, 0x81, [0]⟩ :: [] ∧
      (shut.replies = [] ∧ shut.link ≠ .opened ∧ shut.inbound = []) ∧ session.credits = 0 ∧
      unsolicitedWaits { session with credits := 31 } = false ∧
      ((bothWait .notice).link = .opened ∧ 0 < (bothWait .notice).credits ∧
        offered (bothWait .notice) = some 3 ∧ (bothWait .notice).lastServed = .notice) ∧
      ((bothWait .completion).notices = 11 :: [] ∧
        (bothWait .completion).lastServed = .completion) ∧
      offered { bothWait .notice with delivery := [] } = none ∧
      cachedReply ⟨1, 1, []⟩ session = none := by decide +kernel

theorem meets_AnsweredRequestLeaves :
    (session.sending = none ∧ session.replies = []) ∧ sendingSession.sending ≠ none ∧
      (0x03 : Byte) = Request.closeSession.code ∧ requestOf 0x05 = none := by decide +kernel

theorem meets_RequestRefusedBeforeItsBlock :
    ReadyFor (requestFrame .identify 1 []) loading ∧ ReadyFor (requestFrame .submit 1 []) shut ∧
      ReadyFor (requestFrame .closeSession 1 []) shut ∧
      ReadyFor (requestFrame .openSession 1 [50]) session ∧
      ReadyFor (requestFrame .credit 1 []) session ∧ ReadyFor (requestFrame .identify 1 [0]) shut ∧
      (loading.link = .loading ∧ shut.link = .closed ∧ session.link = .opened ∧
        Request.credit.payloadLength = some 1 ∧ Request.identify.payloadLength = some 0) := by
  refine ⟨ready ?_, ready ?_, ready ?_, ready ?_, ready ?_, ready ?_, ?_⟩ <;> decide +kernel

theorem meets_UnknownKindIsAnswered :
    (0x05 : Byte) ∉ requestKinds ∧ ReadyFor { seq := 1, kind := 0x05, payload := [] } shut :=
  ⟨by decide, ready (by decide +kernel)⟩

theorem meets_CacheReplaysTheReply :
    ∃ s : State, s.inReset = false ∧ s.inbound = [] ∧ s.replies.length < 2 ∧
      TransmitterSettled s ∧
      s.cache = some { seq := 0x20, kind := 0x15, reply := ⟨0x20, 0x95, [7]⟩ } ∧
      Request.collect.code = 0x15 :=
  ⟨{ sendingSession with
      replies := [⟨0x1F, 0x81, [0]⟩], cache := some ⟨0x20, 0x15, ⟨0x20, 0x95, [7]⟩⟩ },
    rfl, rfl, by decide, fun h => (nomatch h), rfl, rfl⟩

theorem meets_RequestWaitsOrOverruns :
    (sendingSession.inReset = false ∧ sendingSession.inbound.length < 2 ∧
        sendingSession.sending ≠ none ∧
        2 ≤ ({ sendingSession with
          replies := [⟨1, 0x81, [0]⟩, ⟨2, 0x81, [0]⟩] } : State).replies.length) ∧
      2 ≤ ({ sendingSession with inbound := [⟨1, 1, []⟩, ⟨2, 1, []⟩] } : State).inbound.length := by
  decide +kernel

theorem meets_IdentifyReportsThePart :
    ReadyFor (requestFrame .identify 1 []) shut ∧ shut.link ≠ .loading :=
  ⟨ready (by decide +kernel), by decide⟩

theorem meets_OpenBeginsASession :
    ReadyFor (requestFrame .openSession 1 [0]) { shut with session := 255 } ∧
      shut.link = .closed ∧ ({ shut with session := 255 } : State).session ≤ 255 :=
  ⟨ready (by decide +kernel), by decide⟩

theorem meets_CloseResetsTheLink :
    ReadyFor (requestFrame .closeSession 1 []) session ∧ session.link = .opened :=
  ⟨ready (by decide +kernel), rfl⟩

theorem meets_CreditRaisesTheCounter :
    ReadyFor (requestFrame .credit 1 [31]) session ∧ ReadyFor (requestFrame .credit 1 [32]) session ∧
      ReadyFor (requestFrame .credit 1 []) session ∧ ReadyFor (requestFrame .credit 1 [1]) shut ∧
      ReadyFor (requestFrame .credit 1 [1]) loading ∧
      (31 < (32 : Byte).toNat ∧ (31 : Byte).toNat ≤ 31 ∧ ([] : List Byte).length ≠ 1) := by
  refine ⟨ready ?_, ready ?_, ready ?_, ready ?_, ready ?_, ?_⟩ <;> decide +kernel

theorem meets_WinSetDefinesTheWindow :
    ReadyFor (requestFrame .winSet 1
        ([15, 7, 7] ++ le32 0xFFFFFC00 ++ le32 0xFFFFFFFF ++ le32 0)) session ∧
      (byteOf (15 : WinIx).val = 15 ∧ byteOf (7 : Target).val = 7 ∧ session.link = .opened ∧
        session.windows[15].state = .free ∧ 1 ≤ (1 : Byte).toNat ∧ (7 : Byte).toNat ≤ 7) ∧
      ((0xFFFFFC00 : Addr).toNat % 1024 = 0 ∧ ((0xFFFFFFFF : Addr).toNat + 1) % 1024 = 0 ∧
        (0xFFFFFC00 : Addr).toNat ≤ (0xFFFFFFFF : Addr).toNat ∧ (0 : Addr).toNat % 1024 = 0) :=
  ⟨ready (by decide +kernel), by decide +kernel⟩

/-- The tables with W2 in another state. -/
def w2 (state : WindowState) (n : Nat) : State :=
  { tables with
    windows := tables.windows.set 2 { flashWindow with state := state, outstanding := n } }

theorem meets_WinOpenAndWinClose :
    (ReadyFor (requestFrame .winOpen 1 [2]) (w2 .closed 0) ∧
        ((w2 .closed 0).windows[2].state = .closed ∧ (w2 .closed 0).profiles[3] = some flash ∧
          0x20000 + (0x13FFFF - 0x100000) < 2 ^ (8 * 3) ∧
          ∀ j : WinIx, j ≠ 2 → (w2 .closed 0).windows[j.val].state = .opened →
            (w2 .closed 0).windows[j.val].limit.toNat < 0x100000 ∨
              0x13FFFF < (w2 .closed 0).windows[j.val].base.toNat)) ∧
      (ReadyFor (requestFrame .winClose 1 [2]) (w2 .opened 1) ∧
        ((w2 .opened 1).windows[2].outstanding ≠ 0 ∧ (w2 .opened 0).windows[2].outstanding = 0)) := by
  refine ⟨⟨ready ?_, ?_⟩, ready ?_, ?_⟩ <;> decide +kernel

theorem meets_WinFreeReleasesTheWindow :
    ReadyFor (requestFrame .winFree 1 [2]) (w2 .closed 0) ∧
      ReadyFor (requestFrame .winFree 1 [2]) (w2 .opened 0) ∧
      ReadyFor (requestFrame .winFree 1 [2]) (w2 .draining 1) ∧
      ReadyFor (requestFrame .winFree 1 [2]) session ∧ session.windows[2].state = .free := by
  refine ⟨ready ?_, ready ?_, ready ?_, ready ?_, ?_⟩ <;> decide +kernel

theorem meets_WinQueryReadsTheTable :
    ReadyFor (requestFrame .winQuery 1 [15]) tables ∧
      ReadyFor (requestFrame .winQuery 1 [255]) tables ∧
      ReadyFor (requestFrame .winQuery 1 [16]) tables ∧
      ReadyFor (requestFrame .winQuery 1 [254]) tables ∧
      (tables.link = .opened ∧ 16 ≤ (16 : Byte).toNat ∧ (254 : Byte) ≠ 255) := by
  refine ⟨ready ?_, ready ?_, ready ?_, ready ?_, ?_⟩ <;> decide +kernel

theorem meets_WindowRequestsAreRefused :
    (ReadyFor (requestFrame .winOpen 1 [16]) tables ∧ 16 ≤ (16 : Byte).toNat) ∧
      (ReadyFor (requestFrame .winSet 1 (2 :: List.replicate 14 0)) tables ∧
        tables.windows[2].state = .opened) ∧
      (ReadyFor (requestFrame .winSet 1 ([3, 8, 1] ++ le32 0 ++ le32 1023 ++ le32 0)) tables ∧
        8 ≤ (8 : Byte).toNat ∧ tables.windows[3].state = .free) ∧
      ((1023 : Addr).toNat % 1024 ≠ 0 ∧ ((1022 : Addr).toNat + 1) % 1024 ≠ 0) ∧
      (ReadyFor (requestFrame .winOpen 1 [3]) tables ∧
        ReadyFor (requestFrame .winOpen 1 [2]) (w2 .draining 1) ∧
        ReadyFor (requestFrame .winOpen 1 [2]) { w2 .closed 0 with profiles := session.profiles } ∧
        ({ w2 .closed 0 with profiles := session.profiles } : State).profiles[3] = none) ∧
      (2 ^ (8 * eeprom.addressBytes) ≤ 0x9000 + (0x207FFF - 0x200000) ∧
        (0x13FC00 ≤ 0x13FFFF ∧ 0x100000 ≤ 0x140BFF)) := by
  refine ⟨⟨ready ?_, ?_⟩, ⟨ready ?_, ?_⟩, ⟨ready ?_, ?_⟩, ?_, ⟨ready ?_, ready ?_, ready ?_, ?_⟩, ?_⟩
    <;> decide +kernel

theorem meets_ProfSetWritesTheProfile :
    (ReadyFor (requestFrame .profSet 1 (byteOf (7 : Target).val :: converter.bytes)) session ∧
        (converter.inRange = true ∧ flash.inRange = true ∧ converter.readyMethod = .readyLine ∧
          flash.readyMethod ≠ .readyLine ∧
          (∀ i : WinIx, session.windows[i.val].state = .opened ∨
            session.windows[i.val].state = .draining → session.windows[i.val].target ≠ 7) ∧
          ∀ tag : Tag, session.slots[tag.val].live = true → session.slots[tag.val].target ≠ 7)) ∧
      (ReadyFor (requestFrame .profSet 1 (8 :: List.replicate 14 0)) session ∧
        (8 ≤ (8 : Byte).toNat ∧ (List.replicate 14 (0 : Byte)).length = 14)) ∧
      (tables.windows[2].state = .opened ∧ tables.windows[2].target = 3) ∧
      ∀ p : Profile, p.inRange = true → p.bytes ≠ List.replicate 14 0 := by
  refine ⟨⟨ready ?_, ?_⟩, ⟨ready ?_, ?_⟩, ?_, fun p hp he => ?_⟩
  · decide +kernel
  · decide +kernel
  · decide +kernel
  · decide +kernel
  · decide +kernel
  · have h1 : byteOf p.addressBytes = 0 := by injection he
    simp only [Profile.inRange, Bool.and_eq_true, Bool.or_eq_true, decide_eq_true_eq] at hp
    rcases hp.1.1.1.1.1.1.1 with (h | h) | h <;> rw [h] at h1 <;> exact absurd h1 (by decide)

theorem meets_ProfQueryReadsTheProfile :
    ReadyFor (requestFrame .profQuery 1 [3]) tables ∧
      ReadyFor (requestFrame .profQuery 1 [7]) tables ∧
      ReadyFor (requestFrame .profQuery 1 [255]) tables ∧
      ReadyFor (requestFrame .profQuery 1 [8]) tables ∧
      (tables.profiles[3] = some flash ∧ tables.profiles[7] = none ∧ tables.link = .opened) := by
  refine ⟨ready ?_, ready ?_, ready ?_, ready ?_, ?_⟩ <;> decide +kernel

theorem meets_ProfileBytesRoundTrip :
    flash.inRange = true ∧ flash.bytes.length = 14 ∧ profileBadAt (3 :: flash.bytes) = none := by
  decide +kernel

theorem overlapLaw_tables : OverlapLaw tables := by unfold OverlapLaw; decide +kernel

theorem meets_SubmitOfDataIsAccepted :
    OverlapLaw tables ∧
      (tables.link = .opened ∧ tables.slots[31].state = .free ∧ tables.windows[2].state = .opened ∧
        tables.windows[2].base.toNat ≤ (0x13FF00 : Addr).toNat ∧ tables.queues[3].length < 16) ∧
      (0x13FF00 + 256 - 1 ≤ tables.windows[2].limit.toNat ∧
        tables.windows[2].rights.read = true ∧ tables.windows[2].rights.write = true) ∧
      ReadyFor (requestFrame .submit 1 ([31, 0, 0] ++ le32 0x13FF00 ++ le16 256)) tables ∧
      ReadyFor (requestFrame .submit 1
        ([31, 1, 1] ++ le32 0x13FF00 ++ le16 256 ++ List.replicate 256 0)) tables := by
  refine ⟨overlapLaw_tables, ?_, ?_, ready ?_, ready ?_⟩ <;> decide +kernel

theorem meets_SubmitOfCommandIsAccepted :
    OverlapLaw tables ∧
      (tables.windows[7].state = .opened ∧
        tables.windows[7].base.toNat ≤ (0x207FFF : Addr).toNat ∧
        (0x207FFF : Addr).toNat ≤ tables.windows[7].limit.toNat ∧
        tables.windows[7].rights.command = true ∧ tables.windows[7].rights.write = true) ∧
      ReadyFor (requestFrame .submit 1
        ([0, 2, 0] ++ le32 0x207FFF ++ [0x20, 1, 1, 16, 16] ++ List.replicate 16 0)) tables :=
  ⟨overlapLaw_tables, by decide +kernel, ready (by decide +kernel)⟩

/-- The tables with T3's queue full. -/
def fullQueue : State := { tables with queues := tables.queues.set 3 (List.replicate 16 0) }

/-- W2 with a rights set. -/
def withRights (r : Rights) : State :=
  { tables with windows := tables.windows.set 2 { flashWindow with rights := r } }

theorem submitShape_read :
    SubmitShape ([4, 0, 0] ++ le32 0x13FF80 ++ le16 256) 4 0x13FF80 (0x13FF80 + 256 - 1)
      { read := true, write := false, command := false } :=
  ⟨false, .inl ⟨256, by decide, by decide, rfl, rfl, rfl⟩⟩

theorem submitShape_write :
    SubmitShape ([4, 1, 1] ++ le32 0x13FFFF ++ le16 1 ++ [0xFF]) 4 0x13FFFF (0x13FFFF + 1 - 1)
      { read := false, write := true, command := false } :=
  ⟨true, .inr (.inl ⟨[0xFF], by decide, by decide, rfl, rfl, rfl⟩)⟩

theorem submitShape_command :
    SubmitShape ([4, 2, 0] ++ le32 0x140000 ++ [6, 0, 1, 1, 16] ++ [0xFF]) 4 0x140000 0x140000
      { read := false, write := true, command := true } :=
  ⟨false, .inr (.inr ⟨6, false, true, [0xFF], 16, by decide, by decide, rfl, rfl, rfl⟩)⟩

theorem meets_SubmitIsRefused :
    (ReadyFor (requestFrame .submit 1 [4]) tables ∧
        ReadyFor (requestFrame .submit 1 [4, 3]) tables ∧
        ReadyFor (requestFrame .submit 1 ([32, 0, 0] ++ le32 0x100000 ++ le16 257)) tables ∧
        ReadyFor (requestFrame .submit 1 ([4, 2, 0] ++ le32 0x200000 ++ [6, 2, 0, 0, 0])) tables ∧
        ReadyFor (requestFrame .submit 1 ([4, 2, 0] ++ le32 0x200000 ++ [6, 0, 0, 17, 0])) tables ∧
        ReadyFor (requestFrame .submit 1 ([4, 0, 0] ++ le32 0x100000 ++ le16 1 ++ [0])) tables ∧
        ReadyFor (requestFrame .submit 1 ([4, 1, 0] ++ le32 0x100000 ++ le16 2 ++ [0])) tables) ∧
      (OverlapLaw tables ∧ OverlapLaw (withTag 4 (readSlot .paused 8)) ∧ OverlapLaw fullQueue ∧
        OverlapLaw (withRights (rightsOf 3)) ∧ OverlapLaw (withRights (rightsOf 4))) ∧
      ((withTag 4 (readSlot .paused 8)).slots[4].state ≠ .free ∧
        (∀ i : WinIx, tables.windows[i.val].state = .opened →
          (0x140000 : Addr).toNat < tables.windows[i.val].base.toNat ∨
            tables.windows[i.val].limit.toNat < (0x140000 : Addr).toNat) ∧
        tables.windows[2].limit.toNat < 0x13FF80 + 256 - 1 ∧
        0x13FFFF + 1 - 1 ≤ tables.windows[2].limit.toNat ∧
        16 ≤ fullQueue.queues[3].length) ∧
      (Rights.lack (rightsOf 4) { read := true, write := false, command := false } ∧
        Rights.lack (rightsOf 4) { read := false, write := true, command := false } ∧
        Rights.lack (rightsOf 4) { read := false, write := true, command := true } ∧
        Rights.lack (rightsOf 3) { read := false, write := true, command := true } ∧
        ¬ Rights.lack (rightsOf 3) { read := false, write := true, command := false }) := by
  refine ⟨⟨ready ?_, ready ?_, ready ?_, ready ?_, ready ?_, ready ?_, ready ?_⟩,
    ⟨overlapLaw_tables, ?_, ?_, ?_, ?_⟩, ?_, ?_⟩
  all_goals first
    | decide +kernel
    | (unfold OverlapLaw; decide +kernel)
    | (unfold Rights.lack; decide)

theorem meets_CollectTakesTheResult :
    ReadyFor (requestFrame .collect 1 [31]) (doneWith 31 [5]) ∧
      ReadyFor (requestFrame .collect 1 [4]) (withTag 4 (readSlot .paused 8)) ∧
      ReadyFor (requestFrame .collect 1 [4]) { session with discards := [4] } ∧
      ReadyFor (requestFrame .collect 1 [4]) session ∧
      ReadyFor (requestFrame .collect 1 [32]) session ∧
      ((doneWith 31 [5]).slots[31].state = .done ∧ 32 ≤ (32 : Byte).toNat) := by
  refine ⟨ready ?_, ready ?_, ready ?_, ready ?_, ready ?_, ?_⟩ <;> decide +kernel

theorem meets_AbortEndsATransaction :
    ReadyFor (requestFrame .abort 1 [4]) (withTag 4 (readSlot .queued 8)) ∧
      ReadyFor (requestFrame .abort 1 [4]) (withTag 4 (readSlot .active 8)) ∧
      ReadyFor (requestFrame .abort 1 [4])
        (withTag 4 { readSlot .active 8 with flushRequested := true }) ∧
      ReadyFor (requestFrame .abort 1 [31]) (doneWith 31 [5]) ∧
      ReadyFor (requestFrame .abort 1 [4]) { session with discards := [4] } ∧
      ReadyFor (requestFrame .abort 1 [4]) (withTag 4 (readSlot .orphaned 8)) ∧
      ReadyFor (requestFrame .abort 1 [32]) session := by
  refine ⟨ready ?_, ready ?_, ready ?_, ready ?_, ready ?_, ready ?_, ready ?_⟩ <;> decide +kernel

theorem meets_SlotAndLaneQueriesRead :
    ReadyFor (requestFrame .slotQuery 1 [31]) session ∧
      ReadyFor (requestFrame .slotQuery 1 [255]) session ∧
      ReadyFor (requestFrame .slotQuery 1 [32]) session ∧
      ReadyFor (requestFrame .laneQuery 1 [3]) session ∧
      ReadyFor (requestFrame .laneQuery 1 [255]) session ∧
      ReadyFor (requestFrame .laneQuery 1 [4]) session := by
  refine ⟨ready ?_, ready ?_, ready ?_, ready ?_, ready ?_, ready ?_⟩ <;> decide +kernel

theorem meets_LaneResumeClearsAFault :
    GrantLevelsLaw faultedLane ∧ ReadyFor (requestFrame .laneResume 1 [2]) faultedLane ∧
      ReadyFor (requestFrame .laneResume 1 [3]) faultedLane ∧
      ReadyFor (requestFrame .laneResume 1 [4]) faultedLane ∧
      (faultedLane.lanes[2].state = .faulted ∧ faultedLane.lanes[3].state ≠ .faulted ∧
        claimed[2] = false ∧ high[2] = true) := by
  refine ⟨rfl, ready ?_, ready ?_, ready ?_, ?_⟩ <;> decide +kernel

/-- A lane with a slot ACTIVE at its head and one QUEUED behind it. -/
def twoTags : State :=
  { withTag 11 { readSlot .active 8 with phase := .data } with
    slots := (tables.slots.set 11 { readSlot .active 8 with phase := .data }).set 12
      (readSlot .queued 8)
    queues := tables.queues.set 3 [11, 12]
    lanes := tables.lanes.set 1 (carrying .busy (dataAccess 1 11 flash (readSlot .active 8))) }

theorem meets_LaneResetFlushesTheLane :
    twoTags.link = .opened ∧ QueueLaw twoTags ∧
      ReadyFor (requestFrame .laneReset 1 [byteOf (1 : LaneIx).val]) twoTags ∧
      ReadyFor (requestFrame .laneReset 1 [4]) twoTags ∧ 4 ≤ (4 : Byte).toNat := by
  refine ⟨rfl, ?_, ready (by decide +kernel), ready (by decide +kernel), by decide⟩
  unfold QueueLaw Slot.inQueue
  decide +kernel

theorem meets_EnteringDoneSettlesTheSlot :
    (w2 .draining 1).windows[2].state = .draining ∧ (w2 .draining 1).windows[2].outstanding = 1 ∧
      (w2 .draining 2).windows[2].outstanding ≠ 1 ∧ (w2 .opened 1).windows[2].state ≠ .draining := by
  decide +kernel

theorem meets_OccurrenceReachesItsSource :
    session.sources[8].enabled = false ∧
      (session.sources[15].enabled = true ∧ session.sources[15].state = .idle) ∧
      ((bothWait .notice).sources[11].enabled = true ∧
        (bothWait .notice).sources[11].state ≠ .idle) := by decide +kernel

/-- E9 REPORTED in ON_ACK, its count `n` over a reported count of 2. -/
def reportedSource (n : Nat) : State :=
  withSource 9
    { enabled := true, mode := .onAck, state := .reported, count := n, reported := 2, detail := 0 }
    session

theorem meets_EvtSetAndEvtAck :
    (ReadyFor (requestFrame .evtSet 1 [16, 1, 1]) session ∧
        ReadyFor (requestFrame .evtSet 1 [15, 2, 1]) session ∧
        ReadyFor (requestFrame .evtSet 1 [15, 0, 2]) session ∧
        ReadyFor (requestFrame .evtSet 1 [9, 0, 1]) (reportedSource 2) ∧
        ReadyFor (requestFrame .evtSet 1 [9, 1, 1]) (reportedSource 2) ∧
        ReadyFor (requestFrame .evtSet 1 [8, 1, 0]) session ∧
        ReadyFor (requestFrame .evtSet 1 [6, 1, 0])
          { session with profiles := session.profiles.set 6 (some converter) }) ∧
      (readyMethodAt 6 { session with profiles := session.profiles.set 6 (some converter) } =
          .readyLine ∧
        ∀ n : Target, n.val = (8 : SrcIx).val → readyMethodAt n session ≠ .readyLine) ∧
      (ReadyFor (requestFrame .evtAck 1 [9]) (reportedSource 3) ∧
        ReadyFor (requestFrame .evtAck 1 [9]) (reportedSource 2) ∧
        ReadyFor (requestFrame .evtAck 1 [9]) session ∧
        ReadyFor (requestFrame .evtAck 1 [16]) session) := by
  refine ⟨⟨ready ?_, ready ?_, ready ?_, ready ?_, ready ?_, ready ?_, ready ?_⟩, ?_,
    ready ?_, ready ?_, ready ?_, ready ?_⟩ <;> decide +kernel

theorem meets_EvtQueryReadsTheSources :
    ReadyFor (requestFrame .evtQuery 1 []) session ∧ session.link = .opened :=
  ⟨ready (by decide +kernel), rfl⟩

theorem meets_CfgImageExportsTheTables :
    (ReadyFor (requestFrame .cfgImage 1 (le16 0 ++ le16 0)) session ∧
        ReadyFor (requestFrame .cfgImage 1 (le16 0 ++ le16 257)) session ∧
        ReadyFor (requestFrame .cfgImage 1 (le16 0 ++ le16 7)) session ∧
        ReadyFor (requestFrame .cfgImage 1 (le16 0 ++ le16 8)) session ∧
        ReadyFor (requestFrame .cfgImage 1 (le16 1 ++ le16 1)) session ∧
        ReadyFor (requestFrame .cfgImage 1 (le16 1 ++ le16 6))
          { session with snapshot := some (buildSnapshot session) }) ∧
      (buildSnapshot session).length = 7 ∧
      (tables.profiles[4] = some chip ∧ tables.windows[7].state ≠ .free) := by
  refine ⟨⟨ready ?_, ready ?_, ready ?_, ready ?_, ready ?_, ready ?_⟩, ?_, ?_⟩ <;> decide +kernel

/-- A QUEUED READ of T3 at its head, in a phase, the lane IDLE with its pointer at select 1. -/
def granting (phase : Phase) (p : Profile) : State :=
  { withTag 4 { readSlot .queued 8 with phase := phase } with
    profiles := tables.profiles.set 3 (some p)
    lanes := tables.lanes.set 1 { state := .idle, pointer := 1, access := none } }

theorem meets_GrantActsOnTheHead :
    (({ loading with lanes := shut.lanes } : State).bootRead.isSome = true ∧
        ({ loading with lanes := shut.lanes } : State).lanes[0].pointer = 0 ∧
        ({ loading with lanes := shut.lanes } : State).lanes[0].state = .idle) ∧
    ((granting .data flash).bootRead = none ∧ twoTags.lanes[1].state ≠ .idle ∧
        tables.queues[(targetAt 1 0).val] = [] ∧ tables.queues[(targetAt 1 1).val] = []) ∧
      ((granting .data flash).lanes[1].state = .idle ∧
        (granting .data flash).queues[(targetAt 1 1).val] = 4 :: [] ∧
        (granting .data flash).slots[4].state = .queued ∧
        (granting .data flash).lanes[1].pointer = 1) ∧
      ((granting .data flash).lk[1] = true ∧
        ({ granting .data flash with lk := high.set 1 false } : State).lk[1] = false) ∧
      ((granting .data flash).slots[4].phase = .data ∧
        (granting .precheck chip).slots[4].phase = .precheck ∧ chip.readyMethod = .none ∧
        flash.readyMethod = .statusPoll ∧ (granting .precheck converter).rdy[3] = true) ∧
      ((readSlot .queued 8).kind = .read ∧ 0xFFFFFF < 256 ^ 3) := by
  decide +kernel

theorem meets_SampleGrantArbitratesAgain :
    ProfileLaw (granting .postcheck converter) ∧
      ProfileLaw { granting .precheck converter with rdy := tables.rdy.set 3 false } ∧
      ((granting .postcheck converter).bootRead = none ∧
        (granting .postcheck converter).lanes[1].state = .idle ∧
        (granting .postcheck converter).queues[(targetAt 1 1).val] = 4 :: [] ∧
        (granting .postcheck converter).profiles[(targetAt 1 1).val] = some converter ∧
        (granting .postcheck converter).rdy[(targetAt 1 1).val] = true) ∧
      (converter.readyMethod = .readyLine ∧ 1 + 1 ≤ converter.retryLimit ∧
        converter.retryLimit < 2 + 1) ∧
      (ProfileLaw (granting .postcheck chip) ∧ chip.readyMethod = .none ∧
        (granting .postcheck chip).profiles[(targetAt 1 1).val] = some chip) := by
  refine ⟨?_, ?_, ?_, ?_, ?_, ?_⟩
  · unfold ProfileLaw; decide +kernel
  · unfold ProfileLaw; decide +kernel
  · decide +kernel
  · decide
  · unfold ProfileLaw; decide +kernel
  · decide +kernel

theorem meets_WritePiecesCoverTheData :
    let sl : Slot := { Slot.freed with kind := .write, address := 496, length := 100 }
    sl.kind = .write ∧ 3 ≤ 8 ∧ 1 ≤ sl.length ∧ sl.progress = 0 ∧
      2 < pieceCount 3 sl.address sl.length := by decide

/-- An ACTIVE slot of a kind on L1 with its data access. -/
def running (kind : TxKind) (p : Profile) : State :=
  let sl : Slot := { readSlot .active 8 with kind := kind, phase := .data }
  { onLane 24 sl (dataAccess 1 24 p sl) with profiles := tables.profiles.set 3 (some p) }

/-- What the statements on the end of a slot's access ask of the state. -/
def runs (s : State) (type : AccessType) : Bool :=
  !s.inReset && s.slots[24].state == .active && !s.slots[24].abortRequested &&
    !s.slots[24].flushRequested && s.profiles[s.slots[24].target.val].isSome &&
    match s.lanes[1].access with
    | some a => a.tag == some 24 && a.accessType == type
    | none => false

theorem meets_ReadEndsWithItsBytes :
    runs (running .read flash) .read = true ∧ (running .read flash).slots[24].kind = .read := by
  decide +kernel

theorem meets_WriteAndCommandEndsGoOn :
    runs (running .write flash) .writePiece = true ∧ runs (running .write chip) .writePiece = true ∧
      runs (running .command flash) .command = true ∧ runs (running .command chip) .command = true ∧
      ((running .write flash).slots[24].piecesTotal ≤ (running .write flash).slots[24].nextPiece ∧
        ({ readSlot .active 8 with piecesTotal := 2 } : Slot).nextPiece < 2) := by decide +kernel

/-- A slot under a status poll in a phase. -/
def polling (phase : Phase) (retries : Nat) : State :=
  onLane 24 { readSlot .active 8 with phase := phase, retryCount := retries } (pollAccess 1 24 flash)

theorem meets_PollEndGivesItsVerdict :
    runs (polling .precheck 39) .statusPoll = true ∧ runs (polling .postcheck 40) .statusPoll = true ∧
      (pollAccess 1 24 flash).bytesIn = 1 ∧
      (39 + 1 ≤ flash.retryLimit ∧ flash.retryLimit < 40 + 1) ∧
      ([0x03].headD (0 : Byte) &&& flash.busyMask ≠ 0 ∧
        [0x02].headD (0 : Byte) &&& flash.busyMask = 0) := by decide +kernel

/-- The same state with a request flag, or orphaned. -/
def flagged (abort flush : Bool) (state : SlotState) (s : State) : State :=
  { s with
    slots := s.slots.set 24
      { s.slots[24] with state := state, abortRequested := abort, flushRequested := flush } }

theorem meets_FlaggedAndOrphanedEnds :
    ((flagged true false .active (running .write flash)).slots[24].abortRequested = true ∧
        (flagged true false .active (running .write flash)).slots[24].state = .active) ∧
      ((flagged false true .active (running .command flash)).slots[24].flushRequested = true ∧
        (flagged false true .active (running .command flash)).slots[24].abortRequested = false) ∧
      (flagged false false .orphaned (running .read flash)).slots[24].state = .orphaned ∧
      ((running .read flash).lanes[1].access.bind Access.tag) = some 24 := by decide +kernel

theorem meets_BootReadEndsTakeTheImage :
    (loading.inReset = false ∧ (loading.lanes[0].access.bind Access.tag) = none ∧
        (loading.lanes[0].access.map Access.bytesIn) = some 80 ∧ loading.loadPhase = some .body ∧
        ((sealed imageBody).drop 5).length = 80) ∧
      (loading.loadBuffer ++ (sealed imageBody).drop 5 = sealed imageBody ∧
        announcedSize (sealed imageBody) ≤ (sealed imageBody).length ∧
        imageFailure (sealed imageBody) = none ∧
        (imageFailure ((sealed imageBody).set 54 5)).isSome = true) ∧
      loading.loadBuffer.length < announcedSize loading.loadBuffer ∧
      (bootAccess { address := 0, count := 5 }).bytesIn = 5 ∧
      (8 < (9 : Byte).toNat ∧ (8 : Byte).toNat ≤ 8 ∧ 16 < (17 : Byte).toNat ∧
        (16 : Byte).toNat ≤ 16) := by decide +kernel

/-- A wrong trailer is a fault of code 4 at its first byte, and no check comes before it. -/
theorem meets_imageFailure_found :
    let img := imageBody ++ le16 (sum16 imageBody + 1)
    ImageFault img 4 83 ∧ (∀ lower : Nat, lower < 83 → ¬ ImageFault img 4 lower) ∧
      ∀ earlier any : Nat, earlier < 4 → ¬ ImageFault img earlier any := by
  intro img
  have hsize : 7 + 15 * (byteAt img 3).toNat + 16 * (byteAt img 4).toNat = 85 := by decide +kernel
  refine ⟨.inl ⟨rfl, by rw [hsize], by rw [hsize]; decide +kernel⟩, ?_, ?_⟩
  · intro lower hl h
    simp only [ImageFault, hsize] at h
    omega
  · intro earlier any he h
    simp only [ImageFault] at h
    omega

/-- The image of empty tables. -/
def emptyImage : List Byte := sealed [0x4F, 0x43, 1, 0, 0]

theorem meets_imageFailure_none : ∀ code offset : Nat, ¬ ImageFault emptyImage code offset := by
  have hp : (byteAt emptyImage 3).toNat = 0 := by decide +kernel
  have hw : (byteAt emptyImage 4).toNat = 0 := by decide +kernel
  have hsum : u16At emptyImage 5 =
      ((emptyImage.take 5).map BitVec.toNat).sum % 65536 := by decide +kernel
  intro code offset h
  simp [ImageFault, hp, hw] at h
  simp [hsum] at h

theorem meets_GoodImageIsApplied :
    imageFailure (sealed imageBody) = none ∧
      (windowRecords (sealed imageBody)).map (fun r => byteAt r.bytes 0) = [0, 1, 4] ∧
      (profileRecords (sealed imageBody)).map (fun r => byteAt r.bytes 0) = [0, 3] ∧
      (∀ e : SrcIx, e.val < 8 →
        loading.sources[e.val] = Source.resting false loading.sources[e.val].mode ∧
          e ∉ loading.notices) := by decide +kernel

theorem meets_LaneFaultCutsTheAccess :
    session.lanes[1].access = none ∧ runs (running .read flash) .read = true ∧
      (flagged false false .orphaned (running .read flash)).slots[24].state = .orphaned ∧
      (loading.lanes[0].access.isSome = true ∧ loading.bootRead.isSome = true ∧
        loading.lanes[0].state = .busy) := by decide +kernel

theorem meets_TimersAndPins :
    ((withTag 4 (readSlot .paused 8)).slots[4].state = .paused ∧
        (doneWith 31 [5]).slots[31].holdTimer ≠ none ∧
        ({ readSlot .done 0 with holdTimer := none } : Slot).holdTimer = none) ∧
      (readyMethodAt 6 { session with profiles := session.profiles.set 6 (some converter) } =
          .readyLine ∧
        readyMethodAt 3 tables ≠ .readyLine ∧ tables.filters[3] = .high) ∧
      (filterTimeAt 3 tables ≠ 0 ∧ filterTimeAt 0 tables = 0 ∧
        ({ tables with filters := tables.filters.set 3 .falling } : State).filters[3] = .falling) := by
  decide +kernel

/-- The laws hold in a session that has a transaction on a lane, one waiting and a third behind it. -/
def working : State :=
  { twoTags with
    windows := twoTags.windows.set 2 { flashWindow with outstanding := 2 }
    pending := [.frameSent high] }

theorem meets_StepsKeepTheTransmitterSettled : Settled working ∧ AlertLaw working := by
  unfold Settled TransmitterSettled AlertLaw
  decide +kernel

theorem meets_StepsKeepBoundsAndLanes :
    Bounded working ∧ LaneLaw working ∧ GrantLevelsLaw working := by
  unfold Bounded LaneLaw GrantLevelsLaw
  decide +kernel

theorem meets_StepsKeepTheEventLaws : EventLaw working ∧ ReadyLineLaw working := by
  unfold EventLaw SourceLaw ReadyLineLaw
  decide +kernel

theorem meets_StepsKeepWindowsApart :
    LoadLaw working ∧ OverlapLaw working ∧ ProfileLaw working := by
  unfold LoadLaw OverlapLaw ProfileLaw
  decide +kernel

theorem meets_StepsKeepTheCounts : LoadLaw working ∧ DeliveryLaw working ∧ CountLaw working := by
  unfold LoadLaw DeliveryLaw CountLaw
  decide +kernel

theorem meets_StepsKeepTheQueues :
    QueueLaw working ∧ HeadLaw working ∧ DeliveryLaw working := by
  refine ⟨?_, ?_, ?_⟩
  · unfold QueueLaw Slot.inQueue; decide +kernel
  · have key : ∀ t : Target, ∀ tag ∈ (working.queues[t.val]).tail,
        working.slots[tag.val].state = .queued := by decide +kernel
    intro t head tag behind hq htag
    exact key t tag (by rw [hq]; exact htag)
  · unfold DeliveryLaw; decide +kernel

theorem meets_StepsKeepDiscardsAndProgress : DiscardLaw working ∧ ProgressLaw working := by
  unfold DiscardLaw ProgressLaw
  decide +kernel

/-- The step of that state answers a next state. -/
theorem meets_step_answers : (view id (step working)).isSome = true := by decide +kernel

end Sys2Proof.Tests
end

section
/-! PROOFS. WIN_FREE and WIN_QUERY: the block's part on an index byte, then the row. -/

namespace Sys2Proof.Machine

/-! ## Request rows in OPEN -/

/-- A request row taken in OPEN, with its kind's length and the LKn levels held, is answered by its
block (R149, R150). -/
theorem exec_openedRow {r : Request} {seq : Byte} {payload : List Byte} {s u : State}
    {reply : Reply} (hready : ReadyFor (requestFrame r seq payload) s) (hp : payload.length ≤ 300)
    (hopened : s.link = .opened) (hadmits : linkRefusal r .opened = none)
    (hlen : lengthOk r payload = true) (hs : serve r payload s = (u, reply)) :
    exec (r.command seq payload s.lk) s =
      .next (answeredWith (requestFrame r seq payload) reply u) := by
  have hheld : r.lkFound s.lk s.lk = s.lk := by cases r <;> rfl
  exact exec_served hready hp (by rw [hopened, hadmits]) hlen (by rw [hheld, hs])

/-! ## WIN_FREE -/

/-- A CLOSED window is freed (R14). -/
theorem reqWinFree_closed {i : WinIx} {s : State} (h : s.windows[i.val].state = .closed) :
    reqWinFree [byteOf i.val] s = (setWindow i Window.freed s, Reply.ok) := by
  simp [reqWinFree, indexOf_byteOf, h]

/-- A window in use is not freed (R14). -/
theorem reqWinFree_inUse {i : WinIx} {s : State}
    (h : s.windows[i.val].state = .opened ∨ s.windows[i.val].state = .draining) :
    reqWinFree [byteOf i.val] s = (s, Reply.refusal .busy) := by
  rcases h with h | h <;> simp [reqWinFree, indexOf_byteOf, h]

/-- A FREE window stays as it is (R14). -/
theorem reqWinFree_free {i : WinIx} {s : State} (h : s.windows[i.val].state = .free) :
    reqWinFree [byteOf i.val] s = (s, Reply.ok) := by
  simp [reqWinFree, indexOf_byteOf, h]

/-- Settles O23: the block's answer in each window state, sent by the row. -/
theorem winFreeReleasesTheWindow : Obligations.WinFreeReleasesTheWindow := by
  intro seq i s hready hlink
  refine ⟨fun hclosed => ?_, fun hinUse => ?_, fun hfree => ?_⟩
  · exact exec_openedRow (r := .winFree) hready (by simp) hlink rfl rfl (reqWinFree_closed hclosed)
  · exact exec_openedRow (r := .winFree) hready (by simp) hlink rfl rfl (reqWinFree_inUse hinUse)
  · exact exec_openedRow (r := .winFree) hready (by simp) hlink rfl rfl (reqWinFree_free hfree)

/-! ## WIN_QUERY -/

/-- The index 255 asks for the summary (R15). -/
theorem reqWinQuery_all (s : State) :
    reqWinQuery [255] s = (s, Reply.okWith (windowSummary s)) := by
  simp [reqWinQuery]

/-- The byte of a window's index is not 255, the index of the summary. -/
theorem byteOf_winIx_ne (i : WinIx) : byteOf i.val ≠ 255 := by
  intro h
  have hval : (byteOf i.val).toNat = i.val := byteOf_toNat i.val (by omega)
  have h255 : (byteOf i.val).toNat = 255 := by rw [h]; rfl
  omega

/-- A window's index asks for its record (R15). -/
theorem reqWinQuery_index (i : WinIx) (s : State) :
    reqWinQuery [byteOf i.val] s = (s, Reply.okWith (s.windows[i.val].record i)) := by
  rw [reqWinQuery, byteAt_cons_zero, if_neg (byteOf_winIx_ne i), indexOf_byteOf (by decide)]

/-- Another byte names no window (R15). -/
theorem reqWinQuery_none {b : Byte} (s : State) (h16 : 16 ≤ b.toNat) (h255 : b ≠ 255) :
    reqWinQuery [b] s = (s, Reply.refusal .badArg) := by
  rw [reqWinQuery, byteAt_cons_zero, if_neg h255, indexOf_none h16]

/-- The summary runs through the table by index, W0 to W15 (R15). -/
theorem windowSummary_eq (s : State) :
    windowSummary s = (List.finRange 16).flatMap fun i : WinIx =>
      [s.windows[i.val].state.code, byteOf s.windows[i.val].outstanding] := by
  rw [windowSummary, toList_finRange, List.flatMap_map]

/-- Settles O24: the block's answer to each index byte, sent by the row. -/
theorem winQueryReadsTheTable : Obligations.WinQueryReadsTheTable := by
  intro seq s hlink
  refine ⟨fun i hready => ?_, fun hready => ?_, fun b h16 h255 hready => ?_⟩
  · exact exec_openedRow (r := .winQuery) hready (by simp) hlink rfl rfl (reqWinQuery_index i s)
  · rw [← windowSummary_eq]
    exact exec_openedRow (r := .winQuery) hready (by simp) hlink rfl rfl (reqWinQuery_all s)
  · exact exec_openedRow (r := .winQuery) hready (by simp) hlink rfl rfl
      (reqWinQuery_none s h16 h255)

end Sys2Proof.Machine
end

section
/-! PROOFS. CREDIT: the block's part on a count, the refusals before it, then the row. COLD_RESET: the
tables entry by entry, then every block. -/

namespace Sys2Proof.Machine

/-! ## Request rows refused before their block -/

/-- The levels held already are the levels found, whether or not the row reads LKn. -/
theorem lkFound_held (r : Request) (lk : LkLevels) : r.lkFound lk lk = lk := by
  cases r <;> rfl

/-- A request row that the link state refuses is answered with that refusal (R149, R153). -/
theorem exec_refusedRow {r : Request} {seq : Byte} {payload : List Byte} {s : State} {st : Status}
    (hready : ReadyFor (requestFrame r seq payload) s) (hp : payload.length ≤ 300)
    (hrefuses : linkRefusal r s.link = some st) :
    exec (r.command seq payload s.lk) s =
      .next (answeredWith (requestFrame r seq payload) (Reply.refusal st) s) := by
  exact exec_answered hready hp (by rw [lkFound_held, answer_refused hrefuses])

/-- A request row taken in OPEN with another length than its kind's is answered BAD_LENGTH (R149). -/
theorem exec_badLengthRow {r : Request} {seq : Byte} {payload : List Byte} {s : State}
    (hready : ReadyFor (requestFrame r seq payload) s) (hp : payload.length ≤ 300)
    (hopened : s.link = .opened) (hadmits : linkRefusal r .opened = none)
    (hlen : lengthOk r payload = false) :
    exec (r.command seq payload s.lk) s =
      .next (answeredWith (requestFrame r seq payload) (Reply.refusal .badLength) s) := by
  have hbad := answer_bad_length (seq := seq) (s := s) (by rw [hopened, hadmits]) hlen
  exact exec_answered hready hp (by rw [lkFound_held, hbad])

/-! ## CREDIT -/

/-- CREDIT carries one byte (R109, R167). -/
theorem lengthOk_credit (payload : List Byte) :
    lengthOk .credit payload = decide (payload.length = 1) := rfl

/-- A count above 31 is refused (R109). -/
theorem reqCredit_over {n : Byte} (s : State) (h : 31 < n.toNat) :
    reqCredit [n] s = (s, Reply.refusal .badArg) :=
  if_pos h

/-- A count from 0 to 31 is added to the counter, which stops at 31 (R109). -/
theorem reqCredit_within {n : Byte} (s : State) (h : n.toNat ≤ 31) :
    reqCredit [n] s = ({ s with credits := min (s.credits + n.toNat) 31 },
      Reply.okWith [byteOf (min (s.credits + n.toNat) 31)]) :=
  if_neg (Nat.not_lt.mpr h)

/-- Settles O20: the refusals by link state and by length, then the block's answer to each count. -/
theorem creditRaisesTheCounter : Obligations.CreditRaisesTheCounter := by
  intro seq payload s hp hready
  refine ⟨fun hloading => ?_, fun hclosed => ?_, fun hopened hne => ?_, fun n hopened hn hover => ?_,
    fun n hopened hn hwithin => ?_⟩
  · exact exec_refusedRow (r := .credit) hready hp (by rw [hloading]; rfl)
  · exact exec_refusedRow (r := .credit) hready hp (by rw [hclosed]; rfl)
  · exact exec_badLengthRow (r := .credit) hready hp hopened rfl
      (by rw [lengthOk_credit, decide_eq_false hne])
  · subst hn
    exact exec_openedRow (r := .credit) hready hp hopened rfl rfl (reqCredit_over s hover)
  · subst hn
    exact exec_openedRow (r := .credit) hready hp hopened rfl rfl (reqCredit_within s hwithin)

/-! ## COLD_RESET -/

@[simp] theorem coldState_window (s : State) (i : WinIx) :
    (coldState s).windows[i.val] = Window.freed :=
  Vector.getElem_replicate i.isLt

@[simp] theorem coldState_profile (s : State) (n : Target) : (coldState s).profiles[n.val] = none :=
  Vector.getElem_replicate n.isLt

@[simp] theorem coldState_slot (s : State) (tag : Tag) : (coldState s).slots[tag.val] = Slot.freed :=
  Vector.getElem_replicate tag.isLt

@[simp] theorem coldState_queue (s : State) (n : Target) : (coldState s).queues[n.val] = [] :=
  Vector.getElem_replicate n.isLt

@[simp] theorem coldState_lane (s : State) (l : LaneIx) :
    (coldState s).lanes[l.val] = Lane.atReset :=
  Vector.getElem_replicate l.isLt

/-- A filter starts at its pin's level, which the reset leaves alone (R46). -/
@[simp] theorem coldState_filter (s : State) (n : Target) :
    (coldState s).filters[n.val] = freshFilter s.rdy[n.val] :=
  Vector.getElem_map freshFilter n.isLt

/-- Of the sources E15 alone is enabled, in ON_ACK (R136). -/
@[simp] theorem coldState_source (s : State) (e : SrcIx) :
    (coldState s).sources[e.val] =
      if e = 15 then Source.resting true .onAck else Source.resting false .onDelivery := by
  show resetSources[e.val] = _
  have hix : (15 = e.val) ↔ e = 15 := by rw [Fin.ext_iff]; exact eq_comm
  simp only [resetSources, Vector.getElem_set, Vector.getElem_replicate, hix]

/-- A lane at cold reset holds the idle levels (R31, R77). -/
theorem outputs_coldState (s : State) (l : LaneIx) :
    (coldState s).lanes[l.val].outputs = .steady LaneLevels.idle :=
  outputs_idle (by rw [coldState_lane]; rfl)

/-- Settles O4: the tables entry by entry; every other block is a field of the state left. -/
theorem coldResetValues : Obligations.ColdResetValues := by
  intro s
  refine ⟨coldState s, rfl, coldState_window s, fun n => ?_, coldState_slot s, rfl, rfl,
    coldState_lane s, coldState_source s, rfl, rfl, rfl, rfl, rfl, rfl, rfl, rfl, rfl, rfl, rfl, rfl,
    rfl, rfl, rfl, rfl, rfl, rfl, rfl, rfl, outputs_coldState s⟩
  exact ⟨coldState_profile s n, coldState_queue s n, coldState_filter s n⟩

end Sys2Proof.Machine
end

section
/-! PROOFS. EVT_QUERY: the nine bytes of a source, the sixteen records by index, then the row. -/

namespace Sys2Proof.Machine

/-- A source's record has nine bytes (R135). -/
@[simp] theorem Source.length_record (src : Source) : src.record.length = 9 := rfl

/-- The records run through the sources by index, E0 to E15; the notice queue follows (R135). -/
theorem eventRecords_eq (s : State) :
    eventRecords s =
      ((List.finRange 16).flatMap fun e : SrcIx => s.sources[e.val].record) ++
        byteOf s.notices.length :: s.notices.map (fun e => byteOf e.val) := by
  rw [eventRecords, toList_finRange, List.flatMap_map]

/-- Sixteen records of nine bytes, the length of the notice queue, and a byte for each notice (R135). -/
theorem length_eventRecords (s : State) : (eventRecords s).length = 145 + s.notices.length := by
  have hrecords : (s.sources.toList.flatMap Source.record).length = 16 * 9 := by
    simp [List.length_flatMap]
  rw [eventRecords, List.length_append, hrecords, List.length_cons, List.length_map]
  omega

/-- Settles O40: the block answers with the records and leaves the state; the row sends the answer. -/
theorem evtQueryReadsTheSources : Obligations.EvtQueryReadsTheSources := by
  intro seq s hready hlink
  exact ⟨eventRecords s, exec_openedRow (r := .evtQuery) hready (by simp) hlink rfl rfl rfl,
    eventRecords_eq s, length_eventRecords s⟩

end Sys2Proof.Machine
end

section
/-! PROOFS. What a step is made of: the changes that the blocks make, each with what holds where it is
made, and the moves of the link around them. Every step is a chain of moves, so a law that each change
and each move keeps is kept by every step. -/

namespace Sys2Proof.Machine

/-! ## Changes of the blocks -/

/-- An entry of a table after a write. -/
theorem getElem_set_fin {α : Type} {n : Nat} (v : Vector α n) (i j : Fin n) (a : α) :
    (v.set i.val a)[j.val] = if j = i then a else v[j.val] := by
  rw [Vector.getElem_set]
  exact if_congr (by rw [Fin.ext_iff, eq_comm]) rfl rfl

/-- The progress of a slot is within its length, or 1 for COMMAND (R62). -/
def Slot.progressWithin (sl : Slot) : Prop :=
  sl.progress ≤ if sl.kind = .command then 1 else sl.length

/-- A lane is BUSY or RESETTING exactly while it has an access (R77). -/
def Lane.agrees (r : Lane) : Prop :=
  r.access.isSome = true ↔ r.state = .busy ∨ r.state = .resetting

/-- One change of the blocks. -/
inductive Change : State → State → Prop where
  /-- Fields that no law speaks of. -/
  | quiet {s : State} {rdy : Vector Bool 8} {lk : LkLevels} {alertn : Bool} {rate : BitVec 2}
      {cfgsrc : Bool} {receiver : Receiver} {cache : Option CacheEntry}
      {snapshot : Option (List Byte)} {lastServed : FrameClass} {outSeq : Byte}
      {sending : Option (List Byte)} {filters : Vector FilterState 8} {outcome : LoadOutcome}
      {code : Nat} {buffer : List Byte} {boot : Option BootRead} {freeCount : Nat} :
      Change s { s with
        rdy := rdy, lk := lk, alertn := alertn, rateCode := rate, cfgsrc := cfgsrc
        receiver := receiver, cache := cache, snapshot := snapshot, lastServed := lastServed
        outSeq := outSeq, sending := sending, filters := filters, loadOutcome := outcome
        failureCode := code, loadBuffer := buffer, bootRead := boot, freeCount := freeCount }
  /-- The levels for the grant of a LANE_RESUME are taken (R89). -/
  | grantLevels {s : State} : Change s (grantLevels s)
  /-- A slot that stands in a queue goes on there; only a head leaves QUEUED (R49, R74). -/
  | slot {s : State} {tag : Tag} {sl : Slot} (stood : s.slots[tag.val].inQueue)
      (stands : sl.inQueue) (target : sl.target = s.slots[tag.val].target)
      (window : sl.window = s.slots[tag.val].window)
      (progress : s.slots[tag.val].progressWithin → sl.progressWithin)
      (head : sl.state = .queued ∨ s.slots[tag.val].state ≠ .queued ∨
        ∃ (t : Target) (rest : List Tag), s.queues[t.val] = tag :: rest) :
      Change s (setSlot tag sl s)
  /-- A slot that stands in a queue ends (R64). -/
  | done {s : State} {tag : Tag} {status : CompStatus} (stood : s.slots[tag.val].inQueue) :
      Change s (enterDone tag status s)
  /-- An orphan's access has ended (R71). -/
  | orphanFreed {s : State} {tag : Tag} (orphan : s.slots[tag.val].state = .orphaned) :
      Change s (freeOrphan tag s)
  /-- A result is taken (R99, R101). -/
  | taken {s : State} {tag : Tag} (done : s.slots[tag.val].state = .done) :
      Change s (freeDone tag s)
  /-- A result is discarded (R104). -/
  | discarded {s : State} {tag : Tag} (done : s.slots[tag.val].state = .done) :
      Change s (listDiscard tag (freeDone tag s))
  /-- A transaction is accepted (R54, R7). -/
  | accepted {s : State} {payload : List Byte} {tag : Tag} {i : WinIx}
      (free : s.slots[tag.val].state = .free) (opened : s.windows[i.val].state = .opened)
      (room : s.queues[(s.windows[i.val].target).val].length < queueCapacity) :
      Change s (acceptSubmit payload tag i s)
  /-- A lane record, its state in agreement with its access (R77). -/
  | lane {s : State} {l : LaneIx} {r : Lane} (agrees : s.lanes[l.val].agrees → r.agrees) :
      Change s (setLane l r s)
  /-- An occurrence (R122). -/
  | occurrence {s : State} {e : SrcIx} {value : BitVec 32} : Change s (occur e value s)
  /-- A window out of use is defined or freed (R11, R14). -/
  | window {s : State} {i : WinIx} {w : Window} (running : s.inReset = false)
      (link : s.link = .opened)
      (was : s.windows[i.val].state = .free ∨ s.windows[i.val].state = .closed)
      (is : w.state = .free ∨ w.state = .closed) (none : w.outstanding = 0) :
      Change s (setWindow i w s)
  /-- A window is brought into use (R12). -/
  | windowOpened {s : State} {i : WinIx} (running : s.inReset = false) (link : s.link = .opened)
      (was : s.windows[i.val].state = .closed)
      (set : (s.profiles[(s.windows[i.val].target).val]).isSome = true)
      (apart : overlapsOpen i s = false) : Change s (setWindow i s.windows[i.val].openedNow s)
  /-- A window is taken out of use (R13). -/
  | windowClosed {s : State} {i : WinIx} (was : s.windows[i.val].state = .opened) :
      Change s (setWindow i
        { s.windows[i.val] with state := closeState s.windows[i.val].outstanding } s)
  /-- A profile is taken (R26, R28). -/
  | profile {s : State} {t : Target} {p : Profile} : Change s (takeProfile t p s)
  /-- A source is disabled (R133). -/
  | disabled {s : State} {e : SrcIx} {mode : ClearMode} : Change s (disableSource e mode s)
  /-- A source is enabled (R132). -/
  | enabled {s : State} {e : SrcIx} {mode : ClearMode} (idle : s.sources[e.val].state = .idle)
      (free : attnOfReadyLine e s = false) : Change s (enableSource e mode s)
  /-- A notice is acknowledged (R130). -/
  | acknowledged {s : State} {e : SrcIx} (was : s.sources[e.val].state = .reported) :
      Change s (acknowledge e s)
  /-- Credits are given or spent (R108). -/
  | credits {s : State} {n : Nat} (within : s.credits ≤ creditLimit → n ≤ creditLimit) :
      Change s { s with credits := n }
  /-- A session begins (R154). -/
  | session {s : State} {hold : Byte} (link : s.link = .closed) :
      Change s { s with
        session := nextSession s.session, holdTime := hold.toNat, outSeq := 0, link := .opened }
  /-- A link reset (R157). -/
  | linkReset {s : State} (link : s.link ≠ .loading) : Change s (linkReset s)
  /-- A load ends (R184). -/
  | loadEnds {s : State} : Change s { s with
      loadPhase := none, link := .closed, loadBuffer := [], bootRead := none, cache := none }
  /-- A load goes on with its body (R179). -/
  | loadBody {s : State} (loading : s.loadPhase.isSome = true) :
      Change s { s with loadPhase := some .body }
  /-- A good image is applied (R185). -/
  | image {s : State} {img : List Byte} (loading : s.loadPhase.isSome = true)
      (good : imageFailure img = none) : Change s (applyImage img s)

/-- A chain of changes. -/
def Changes : State → State → Prop := Relation.ReflTransGen Change

theorem Changes.refl (s : State) : Changes s s := Relation.ReflTransGen.refl

theorem Changes.trans {s t u : State} (h : Changes s t) (h' : Changes t u) : Changes s u :=
  Relation.ReflTransGen.trans h h'

theorem Changes.snoc {s t u : State} (h : Changes s t) (h' : Change t u) : Changes s u :=
  Relation.ReflTransGen.tail h h'

theorem Change.chain {s t : State} (h : Change s t) : Changes s t := Relation.ReflTransGen.single h

/-- What each change keeps, a chain of changes keeps. -/
theorem Changes.keeps {P : State → Prop} (h : ∀ s t : State, Change s t → P s → P t)
    {s t : State} (hst : Changes s t) (hs : P s) : P t := by
  induction hst with
  | refl => exact hs
  | tail _ hc ih => exact h _ _ hc ih

/-! ## Slots and grants -/

theorem Slot.inQueue_queued {sl : Slot} (h : sl.state = .queued) : sl.inQueue := .inl h

theorem Slot.inQueue_active {sl : Slot} (h : sl.state = .active) : sl.inQueue := .inr (.inl h)

theorem Slot.inQueue_paused {sl : Slot} (h : sl.state = .paused) : sl.inQueue := .inr (.inr h)

@[simp] theorem getElem_setSlot (tag : Tag) (sl : Slot) (s : State) :
    (setSlot tag sl s).slots[tag.val] = sl := by simp

/-- A slot is rewritten on its place in the queue and ends (R64). -/
theorem changes_setSlot_done {s : State} {tag : Tag} {sl : Slot} {status : CompStatus}
    (h : Change s (setSlot tag sl s)) (hsl : sl.inQueue) :
    Changes s (enterDone tag status (setSlot tag sl s)) :=
  h.chain.snoc (.done (by rw [getElem_setSlot]; exact hsl))

/-- A busy verdict, on the ACTIVE slot of a poll or the QUEUED head of a grant (R56). -/
theorem changes_busyVerdict {s : State} {tag : Tag} (p : Profile)
    (stood : s.slots[tag.val].inQueue)
    (head : s.slots[tag.val].state ≠ .queued ∨
      ∃ (t : Target) (rest : List Tag), s.queues[t.val] = tag :: rest) :
    Changes s (busyVerdict tag p s) := by
  unfold busyVerdict
  split
  · exact changes_setSlot_done (.slot stood stood rfl rfl id (by tauto)) stood
  · exact Change.chain (.slot stood (Slot.inQueue_paused rfl) rfl rfl id (.inr head))

/-- A lane takes an access (R81). -/
theorem change_laneBusy (l : LaneIx) (a : Access) (s : State) : Change s (laneBusy l a s) :=
  .lane fun _ => by simp [Lane.agrees]

/-- The grant that is given to a QUEUED head (R55, R81). -/
theorem changes_actOnGrant {s : State} {tag : Tag} {t : Target} {rest : List Tag} (l : LaneIx)
    (sel : Fin 2) (p : Profile) (hq : s.slots[tag.val].state = .queued)
    (hhead : s.queues[t.val] = tag :: rest) : Changes s (actOnGrant l sel tag p s) := by
  have stood := Slot.inQueue_queued hq
  have started : ∀ phase : Phase,
      Change s (setSlot tag { s.slots[tag.val] with state := .active, phase := phase } s) :=
    fun _ => .slot stood (Slot.inQueue_active rfl) rfl rfl id (.inr (.inr ⟨t, rest, hhead⟩))
  rcases actOnGrant_cases l sel tag p s with h | h | h | h <;> rw [h]
  · exact (started _).chain.snoc (change_laneBusy l _ _)
  · exact (started _).chain.snoc (change_laneBusy l _ _)
  · exact changes_busyVerdict p stood (.inr ⟨t, rest, hhead⟩)
  · exact (Change.done stood).chain

/-- A failed load (R184). -/
theorem changes_loadFail (f : LoadFailure) (s : State) : Changes s (loadFail f s) :=
  ((Change.occurrence (e := configSource) (value := failureDetail f)).chain.snoc .loadEnds).snoc
    .quiet

theorem changes_giveGrant {s : State} {l : LaneIx} {sel : Fin 2} {o : Offer}
    (hpick : pickOffer l s = some (sel, o)) : Changes s (giveGrant l sel o s) := by
  have hptr : Change s (setLane l { s.lanes[l.val] with pointer := otherSelect sel } s) := .lane id
  unfold giveGrant
  dsimp only
  cases o with
  | boot r => exact hptr.chain.snoc (change_laneBusy l _ _)
  | head tag =>
    obtain ⟨hq, rest, hhead⟩ := pickOffer_head hpick
    dsimp only
    split
    · exact hptr.chain
    · exact hptr.chain.trans (changes_actOnGrant (t := targetAt l sel) (rest := rest)
        (s := setLane l _ s) l sel _ hq hhead)

theorem changes_faultAtGrant {s : State} {l : LaneIx} (o : Offer)
    (hidle : s.lanes[l.val].state = .idle) : Changes s (faultAtGrant l o s) := by
  have hlane : Change s (setLane l { s.lanes[l.val] with state := .faulted } s) :=
    .lane fun h => by simpa [Lane.agrees, hidle] using h
  unfold faultAtGrant
  cases o with
  | boot r => exact (hlane.chain.snoc .occurrence).trans (changes_loadFail _ _)
  | head tag => exact hlane.chain.snoc .occurrence

/-- An arbitration is a chain of changes (R78). -/
theorem changes_arbitrate (l : LaneIx) (s : State) : Changes s (arbitrate l s) :=
  arbitrateFor_keeps (P := Changes s)
    (fun _ _ _ _ hpick _ hs => hs.trans (changes_giveGrant hpick))
    (fun _ o _ hidle _ _ hs => hs.trans (changes_faultAtGrant o hidle)) _ _ (Changes.refl s)

/-! ## Ends of an access -/

/-- What a data access counts keeps the progress within the length (R58–R60, R62). -/
theorem counted_progress {sl : Slot} (bytes : List Byte) (pageCode : Nat)
    (h : sl.progressWithin) : (sl.counted bytes pageCode).progressWithin := by
  have hpiece : sl.pieceLength pageCode ≤ sl.length - sl.progress := by
    unfold Slot.pieceLength; split <;> omega
  cases hk : sl.kind <;> simp only [Slot.progressWithin, Slot.counted, hk] at h ⊢ <;> simp_all
  omega

/-- Counting leaves a slot's state, target, window, kind and flags alone. -/
theorem counted_same (bytes : List Byte) (pageCode : Nat) (sl : Slot) :
    sl.counted bytes pageCode =
      { sl with
        progress := (sl.counted bytes pageCode).progress
        result := (sl.counted bytes pageCode).result } := by
  unfold Slot.counted; split <;> rfl

theorem flaggedEnd_same (type : AccessType) (bytes : List Byte) (pageCode : Nat) (sl : Slot) :
    sl.flaggedEnd type bytes pageCode = sl ∨
      sl.flaggedEnd type bytes pageCode = sl.counted bytes pageCode := by
  cases type <;> simp [Slot.flaggedEnd]

section Active
variable {s : State} {tag : Tag}

/-- An ACTIVE slot is counted and goes on with another phase or piece (R59, R60). -/
theorem change_counted (bytes : List Byte) (pageCode : Nat) {sl : Slot}
    (hactive : s.slots[tag.val].state = .active) (stands : sl.inQueue)
    (hsl : sl = { s.slots[tag.val].counted bytes pageCode with
      state := sl.state, phase := sl.phase, nextPiece := sl.nextPiece }) :
    Change s (setSlot tag sl s) := by
  have hsame := counted_same bytes pageCode s.slots[tag.val]
  refine .slot (Slot.inQueue_active hactive) stands ?_ ?_ (fun h => ?_) (.inr (.inl (by simp [hactive])))
  · rw [hsl, hsame]
  · rw [hsl, hsame]
  · rw [hsl]; exact counted_progress bytes pageCode h

theorem counted_active (bytes : List Byte) (pageCode : Nat) {sl : Slot} (h : sl.state = .active) :
    (sl.counted bytes pageCode).inQueue := by
  rw [counted_same]; exact Slot.inQueue_active h

theorem changes_closeData (bytes : List Byte) (p p' : Profile) (hactive : s.slots[tag.val].state = .active) :
    Changes s (closeData tag p' (s.slots[tag.val].counted bytes p.pageCode) s) := by
  unfold closeData
  cases p'.readyMethod with
  | none =>
    exact changes_setSlot_done (change_counted bytes p.pageCode hactive
      (counted_active bytes p.pageCode hactive) rfl) (counted_active bytes p.pageCode hactive)
  | statusPoll => exact (change_counted bytes p.pageCode hactive (Slot.inQueue_queued rfl) rfl).chain
  | readyLine => exact (change_counted bytes p.pageCode hactive (Slot.inQueue_queued rfl) rfl).chain

theorem changes_dataEnds (bytes : List Byte) (p : Profile)
    (hactive : s.slots[tag.val].state = .active) : Changes s (dataEnds tag bytes p s) := by
  unfold dataEnds
  have hin := counted_active bytes p.pageCode hactive
  dsimp only
  split
  · exact changes_setSlot_done (change_counted bytes p.pageCode hactive hin rfl) hin
  · split
    · exact (change_counted bytes p.pageCode hactive (Slot.inQueue_queued rfl) rfl).chain
    · exact changes_closeData bytes p p hactive
  · exact changes_closeData bytes p p hactive

theorem changes_pollEnds (bytes : List Byte) (p : Profile)
    (hactive : s.slots[tag.val].state = .active) : Changes s (pollEnds tag bytes p s) := by
  have stood := Slot.inQueue_active hactive
  have next : ∀ phase : Phase,
      Changes s (setSlot tag { s.slots[tag.val] with phase := phase, state := .queued } s) :=
    fun _ => Change.chain (.slot stood (Slot.inQueue_queued rfl) rfl rfl id (.inl rfl))
  unfold pollEnds
  split
  · exact changes_busyVerdict p stood (.inl (by simp [hactive]))
  · split
    · exact (Change.done stood).chain
    · exact next _
    · exact next _

theorem changes_endActive (type : AccessType) (bytes : List Byte) (p : Profile)
    (hactive : s.slots[tag.val].state = .active) : Changes s (endActive tag type bytes p s) := by
  have stood := Slot.inQueue_active hactive
  have flagged : ∀ status : CompStatus, Changes s (enterDone tag status
      (setSlot tag (s.slots[tag.val].flaggedEnd type bytes p.pageCode) s)) := by
    intro status
    rcases flaggedEnd_same type bytes p.pageCode s.slots[tag.val] with h | h <;> rw [h]
    · exact changes_setSlot_done
        (.slot stood stood rfl rfl id (.inr (.inl (by simp [hactive])))) stood
    · exact changes_setSlot_done (change_counted bytes p.pageCode hactive
        (counted_active bytes p.pageCode hactive) rfl) (counted_active bytes p.pageCode hactive)
  unfold endActive
  dsimp only
  split
  · exact flagged _
  · split
    · exact flagged _
    · cases type with
      | statusPoll => exact changes_pollEnds bytes p hactive
      | bootRead => exact Changes.refl s
      | read => exact changes_dataEnds bytes p hactive
      | writePiece => exact changes_dataEnds bytes p hactive
      | command => exact changes_dataEnds bytes p hactive

end Active

theorem changes_uncutReport (tag : Tag) (type : AccessType) (bytes : List Byte) (s : State) :
    Changes s (uncutReport tag type bytes s) := by
  unfold uncutReport
  split
  · rename_i hactive
    split
    · exact changes_endActive type bytes _ hactive
    · exact Changes.refl s
  · rename_i horphan
    exact (Change.orphanFreed horphan).chain
  all_goals exact Changes.refl s

theorem changes_cutReport (tag : Tag) (s : State) : Changes s (cutReport tag s) := by
  unfold cutReport
  split
  · rename_i hactive
    exact (Change.done (Slot.inQueue_active hactive)).chain
  · rename_i horphan
    exact (Change.orphanFreed horphan).chain
  all_goals exact Changes.refl s

theorem changes_bootReadEnds (bytes : List Byte) (s : State) :
    Changes s (bootReadEnds bytes s) := by
  unfold bootReadEnds
  split
  · exact Change.quiet.chain
  · rename_i hphase
    split
    · exact changes_loadFail _ s
    · exact (Change.loadBody (by simp [hphase])).chain.snoc .quiet
  · rename_i hphase
    dsimp only
    split
    · exact Change.quiet.chain
    · split
      · exact changes_loadFail _ s
      · rename_i hgood
        exact (Change.image (by simp [hphase]) hgood).chain

theorem change_laneIdle (l : LaneIx) (s : State) : Change s (laneIdle l s) :=
  .lane fun _ => by simp [Lane.agrees]

/-- The uncut end of an access is a chain of changes (R82). -/
theorem changes_endAccess (l : LaneIx) (data : List Byte) (s : State) :
    Changes s (endAccess l data s) := by
  unfold endAccess
  split
  · exact Changes.refl s
  · dsimp only
    split
    · exact ((Change.quiet.chain.trans (changes_bootReadEnds _ _)).snoc (change_laneIdle l _)).trans
        (changes_arbitrate l _)
    · exact ((Change.quiet.chain.trans (changes_uncutReport _ _ _ _)).snoc (change_laneIdle l _)).trans
        (changes_arbitrate l _)

/-- The cut of an access is a chain of changes (R84). -/
theorem changes_cutAccess (l : LaneIx) (s : State) : Changes s (cutAccess l s) := by
  unfold cutAccess
  split
  · exact Changes.refl s
  · have hlane : Change s (setLane l
        { s.lanes[l.val] with state := stateAfterCut s.lanes[l.val].state, access := none } s) :=
      .lane fun _ => by cases h : s.lanes[l.val].state <;> simp [Lane.agrees, stateAfterCut]
    dsimp only
    split
    · exact ((hlane.chain.snoc .occurrence).trans (changes_loadFail _ _)).trans
        (changes_arbitrate l _)
    · exact ((hlane.chain.trans (changes_cutReport _ _)).snoc .occurrence).trans
        (changes_arbitrate l _)

end Sys2Proof.Machine
end

section
/-! PROOFS. What a step is made of, continued: each request's part is a chain of changes, each command
a chain of moves. -/

namespace Sys2Proof.Machine

/-! ## What the shared operations leave alone -/

/-- What a step of a fold keeps, the fold keeps. -/
theorem foldl_keeps {α : Type} {P : State → Prop} {f : State → α → State} (xs : List α)
    (h : ∀ (s : State) (x : α), P s → P (f s x)) (s : State) (hs : P s) : P (xs.foldl f s) := by
  induction xs generalizing s with
  | nil => exact hs
  | cons x xs ih => exact ih _ (h s x hs)

/-- The two states differ in slots, windows, sources and notice queue alone. -/
def SlotsAndWindows (s t : State) : Prop :=
  t = { s with
    slots := t.slots, windows := t.windows, sources := t.sources, notices := t.notices }

theorem SlotsAndWindows.trans {s t u : State} (h : SlotsAndWindows s t)
    (h' : SlotsAndWindows t u) : SlotsAndWindows s u := by
  unfold SlotsAndWindows at h
  exact Eq.trans h' (by rw [h])

theorem slotsAndWindows_lowerCount {s u : State} (i : WinIx) (h : SlotsAndWindows s u) :
    SlotsAndWindows s (lowerCount i u) :=
  h.trans (by rw [lowerCount_eq]; rfl)

theorem slotsAndWindows_linkResetSlot (s : State) (tag : Tag) :
    SlotsAndWindows s (linkResetSlot s tag) := by
  unfold linkResetSlot
  split
  · exact slotsAndWindows_lowerCount _ rfl
  · exact slotsAndWindows_lowerCount _ rfl
  all_goals exact rfl

theorem slotsAndWindows_linkResetSlots (s : State) : SlotsAndWindows s (linkResetSlots s) :=
  linkResetSlots_keeps (fun tag u hu => hu.trans (slotsAndWindows_linkResetSlot u tag)) s rfl

/-- A link reset leaves alone what it does not free, empty or set (R157). -/
theorem linkReset_frame (s : State) :
    linkReset s = { s with
      slots := (linkResetSlots s).slots, windows := (linkResetSlots s).windows
      sources := (linkResetSlots s).sources, notices := (linkResetSlots s).notices
      queues := Vector.replicate 8 [], delivery := [], discards := [], link := .closed
      replies := [], cache := none, snapshot := none, credits := 0, holdTime := defaultHoldTime
      lastServed := .notice } := by
  have h : linkResetSlots s = _ := slotsAndWindows_linkResetSlots s
  unfold linkReset
  generalize linkResetSlots s = u at h
  rw [h]

/-- A profile taken changes its record, the pin's filter, and E(n) (R26, R28). -/
theorem takeProfile_frame (t : Target) (p : Profile) (s : State) :
    takeProfile t p s = { s with
      profiles := s.profiles.set t.val (some p)
      filters := s.filters.set t.val (filterTaken t p s)
      sources := (takeProfile t p s).sources, notices := (takeProfile t p s).notices } := by
  unfold takeProfile; split <;> rfl

/-- The two states differ in the tables that an image defines alone. -/
def ImageTables (s t : State) : Prop :=
  t = { s with
    windows := t.windows, profiles := t.profiles, filters := t.filters, sources := t.sources
    notices := t.notices }

theorem ImageTables.trans {s t u : State} (h : ImageTables s t) (h' : ImageTables t u) :
    ImageTables s u := by
  unfold ImageTables at h
  exact Eq.trans h' (by rw [h])

theorem imageTables_applyProfile (s : State) (r : ImageRecord) :
    ImageTables s (applyProfile s r) := by
  unfold applyProfile
  split
  · exact rfl
  · dsimp only
    rw [takeProfile_frame]
    exact rfl

theorem imageTables_applyWindow (s : State) (r : ImageRecord) :
    ImageTables s (applyWindow s r) := by
  unfold applyWindow; split <;> exact rfl

theorem imageTables_applyOpening (s : State) (r : ImageRecord) :
    ImageTables s (applyOpening s r) := by
  unfold applyOpening
  split
  · split <;> exact rfl
  · exact rfl

/-- The state once the records of an image have been taken, before the load ends (R185). -/
def imageTaken (img : List Byte) (s : State) : State :=
  (windowRecords img).foldl applyOpening
    ((windowRecords img).foldl applyWindow ((profileRecords img).foldl applyProfile s))

theorem imageTables_imageTaken (img : List Byte) (s : State) :
    ImageTables s (imageTaken img s) := by
  have hprofiles := foldl_keeps (P := ImageTables s) (profileRecords img)
    (fun u r hu => hu.trans (imageTables_applyProfile u r)) s rfl
  have hwindows := foldl_keeps (P := ImageTables s) (windowRecords img)
    (fun u r hu => hu.trans (imageTables_applyWindow u r)) _ hprofiles
  exact foldl_keeps (windowRecords img)
    (fun u r hu => ImageTables.trans hu (imageTables_applyOpening u r)) _ hwindows

/-- An image applied changes the tables that it defines and ends the load (R185). -/
theorem applyImage_frame (img : List Byte) (s : State) :
    applyImage img s = { s with
      windows := (imageTaken img s).windows, profiles := (imageTaken img s).profiles
      filters := (imageTaken img s).filters, sources := (imageTaken img s).sources
      notices := (imageTaken img s).notices
      loadOutcome := .loaded, failureCode := 0, loadPhase := none, loadBuffer := []
      bootRead := none, link := .closed, cache := none } := by
  have h : imageTaken img s = _ := imageTables_imageTaken img s
  show ({ imageTaken img s with
      loadOutcome := .loaded, failureCode := 0, loadPhase := none, loadBuffer := []
      bootRead := none, link := .closed, cache := none } : State) = _
  generalize imageTaken img s = u at h
  rw [h]

/-! ## What every change leaves of the link -/

/-- The fields of the link and of the model itself that the blocks leave alone, but for the replies
that a link reset drops and the levels that a grant takes. -/
structure LinkKept (s t : State) : Prop where
  inReset : t.inReset = s.inReset
  inbound : t.inbound = s.inbound
  pending : t.pending = s.pending
  replies : t.replies = s.replies ∨ t.replies = []
  levels : t.lkAtGrant = s.lkAtGrant ∨ t.lkAtGrant = none

theorem LinkKept.refl (s : State) : LinkKept s s := ⟨rfl, rfl, rfl, .inl rfl, .inl rfl⟩

theorem LinkKept.trans {s t u : State} (h : LinkKept s t) (h' : LinkKept t u) : LinkKept s u where
  inReset := h'.inReset.trans h.inReset
  inbound := h'.inbound.trans h.inbound
  pending := h'.pending.trans h.pending
  replies := h'.replies.elim (fun e => h.replies.imp e.trans e.trans) .inr
  levels := h'.levels.elim (fun e => h.levels.imp e.trans e.trans) .inr

theorem Change.linkKept {s t : State} (h : Change s t) : LinkKept s t := by
  cases h with
  | grantLevels => exact ⟨rfl, rfl, rfl, .inl rfl, .inr rfl⟩
  | done => rw [enterDone_eq, lowerCount_eq]; exact ⟨rfl, rfl, rfl, .inl rfl, .inl rfl⟩
  | orphanFreed => rw [freeOrphan, lowerCount_eq]; exact ⟨rfl, rfl, rfl, .inl rfl, .inl rfl⟩
  | profile => rw [takeProfile_frame]; exact ⟨rfl, rfl, rfl, .inl rfl, .inl rfl⟩
  | linkReset => rw [linkReset_frame]; exact ⟨rfl, rfl, rfl, .inr rfl, .inl rfl⟩
  | image => rw [applyImage_frame]; exact ⟨rfl, rfl, rfl, .inl rfl, .inl rfl⟩
  | _ => exact ⟨rfl, rfl, rfl, .inl rfl, .inl rfl⟩

theorem Changes.linkKept {s t : State} (h : Changes s t) : LinkKept s t :=
  h.keeps (fun _ _ hc hs => hs.trans hc.linkKept) (LinkKept.refl s)

/-! ## Requests -/

section Requests
variable {s : State} (payload : List Byte)

theorem changes_reqWinSet (hrun : s.inReset = false) (hlink : s.link = .opened) :
    Changes s (reqWinSet payload s).1 := by
  unfold reqWinSet
  split
  · exact Changes.refl s
  · rename_i i _
    split
    · exact Changes.refl s
    · rename_i hidle
      have hwas : s.windows[i.val].state = .free ∨ s.windows[i.val].state = .closed := by
        cases h : s.windows[i.val].state <;> simp [h] at hidle ⊢
      split
      · exact Changes.refl s
      · split
        · exact Changes.refl s
        · exact (Change.window hrun hlink hwas (.inr rfl) rfl).chain

theorem changes_reqWinOpen (hrun : s.inReset = false) (hlink : s.link = .opened) :
    Changes s (reqWinOpen payload s).1 := by
  unfold reqWinOpen
  split
  · exact Changes.refl s
  · dsimp only
    split
    case h_4 hclosed =>
      split
      · exact Changes.refl s
      · rename_i hp
        split
        · exact Changes.refl s
        · split
          · exact Changes.refl s
          · rename_i hov
            exact (Change.windowOpened hrun hlink hclosed (by rw [hp]; rfl) (by simpa using hov)).chain
    all_goals exact Changes.refl s

theorem changes_reqWinClose : Changes s (reqWinClose payload s).1 := by
  unfold reqWinClose
  split
  · exact Changes.refl s
  · dsimp only
    split
    case h_4 hopened => exact (Change.windowClosed hopened).chain
    all_goals exact Changes.refl s

theorem changes_reqWinFree (hrun : s.inReset = false) (hlink : s.link = .opened) :
    Changes s (reqWinFree payload s).1 := by
  unfold reqWinFree
  split
  · exact Changes.refl s
  · split
    case h_4 hclosed => exact (Change.window hrun hlink (.inr hclosed) (.inl rfl) rfl).chain
    all_goals exact Changes.refl s

theorem changes_reqWinQuery : Changes s (reqWinQuery payload s).1 := by
  unfold reqWinQuery
  split
  · exact Changes.refl s
  · split <;> exact Changes.refl s

theorem changes_reqProfSet : Changes s (reqProfSet payload s).1 := by
  unfold reqProfSet
  split
  · exact Changes.refl s
  · split
    · exact Changes.refl s
    · split
      · exact Changes.refl s
      · exact Change.profile.chain

theorem changes_reqProfQuery : Changes s (reqProfQuery payload s).1 := by
  unfold reqProfQuery
  split
  · exact Changes.refl s
  · split <;> exact Changes.refl s

/-- The window found is OPEN and holds the address (R3). -/
theorem findWindow_some {address : Addr} {i : WinIx} (h : findWindow address s = some i) :
    s.windows[i.val].state = .opened ∧ s.windows[i.val].base.toNat ≤ address.toNat ∧
      address.toNat ≤ s.windows[i.val].limit.toNat := by
  have hi := List.find?_some h
  simpa [and_assoc] using hi

theorem changes_submitChecked (tag : Tag) : Changes s (submitChecked payload tag s).1 := by
  unfold submitChecked
  split
  · exact Changes.refl s
  · rename_i hfree
    split
    · exact Changes.refl s
    · rename_i i hfound
      dsimp only
      split
      · exact Changes.refl s
      · split
        · exact Changes.refl s
        · split
          · exact Changes.refl s
          · rename_i hroom
            exact (Change.accepted (by simpa using hfree) (findWindow_some hfound).1
              (by simpa using hroom)).chain.trans (changes_arbitrate _ _)

theorem changes_reqSubmit : Changes s (reqSubmit payload s).1 := by
  unfold reqSubmit
  iterate 4
    split
    · exact Changes.refl s
  split
  · exact Changes.refl s
  · exact changes_submitChecked payload _

theorem changes_reqCollect : Changes s (reqCollect payload s).1 := by
  unfold reqCollect
  split
  · exact Changes.refl s
  · split
    case h_1 hdone => exact (Change.taken hdone).chain
    all_goals exact Changes.refl s

theorem changes_reqAbort : Changes s (reqAbort payload s).1 := by
  unfold reqAbort
  split
  · exact Changes.refl s
  · rename_i tag _
    split
    case h_1 h => exact (Change.done (Slot.inQueue_queued h)).chain.trans (changes_arbitrate _ _)
    case h_2 h => exact (Change.done (Slot.inQueue_paused h)).chain.trans (changes_arbitrate _ _)
    case h_3 h =>
      have hasked : s.slots[tag.val].abortAsked = { s.slots[tag.val] with
          abortRequested := s.slots[tag.val].abortAsked.abortRequested } := by
        unfold Slot.abortAsked; split <;> rfl
      rw [hasked]
      exact Change.chain (.slot (Slot.inQueue_active h) (Slot.inQueue_active h) rfl rfl id
        (.inr (.inl (by simp [h]))))
    all_goals exact Changes.refl s

theorem changes_reqSlotQuery : Changes s (reqSlotQuery payload s).1 := by
  unfold reqSlotQuery
  split
  · exact Changes.refl s
  · split <;> exact Changes.refl s

theorem changes_reqLaneQuery : Changes s (reqLaneQuery payload s).1 := by
  unfold reqLaneQuery
  split
  · exact Changes.refl s
  · split <;> exact Changes.refl s

theorem changes_reqLaneResume : Changes s (reqLaneResume payload s).1 := by
  unfold reqLaneResume
  split
  · exact Changes.refl s
  · rename_i l _
    split
    · exact Changes.refl s
    · rename_i hfaulted
      split
      · exact Changes.refl s
      · have hlane : Change (grantLevels s)
            (setLane l { s.lanes[l.val] with state := .idle } (grantLevels s)) :=
          .lane fun h => by
            have hf : s.lanes[l.val].state = .faulted := by simpa using hfaulted
            have h' : s.lanes[l.val].agrees := h
            simpa [Lane.agrees, hf] using h'
        exact (Change.grantLevels.chain.snoc hlane).trans (changes_arbitrate _ _)

theorem changes_flushSlot (tag : Tag) : Changes s (flushSlot s tag) := by
  unfold flushSlot
  split
  · rename_i h; exact (Change.done (Slot.inQueue_queued h)).chain
  · rename_i h; exact (Change.done (Slot.inQueue_paused h)).chain
  · rename_i h
    have hasked : s.slots[tag.val].flushAsked = { s.slots[tag.val] with
        flushRequested := s.slots[tag.val].flushAsked.flushRequested } := by
      unfold Slot.flushAsked; split <;> rfl
    rw [hasked]
    exact Change.chain (.slot (Slot.inQueue_active h) (Slot.inQueue_active h) rfl rfl id
      (.inr (.inl (by simp [h]))))
  all_goals exact Changes.refl s

theorem flushSlot_lanes (s : State) (tag : Tag) : (flushSlot s tag).lanes = s.lanes := by
  unfold flushSlot; split <;> simp [enterDone_eq, lowerCount_eq]

theorem flushLane_lanes (l : LaneIx) (s : State) : (flushLane l s).lanes = s.lanes :=
  flushLane_keeps (P := fun u => u.lanes = s.lanes) l
    (fun tag u hu => (flushSlot_lanes u tag).trans hu) s rfl

theorem changes_reqLaneReset : Changes s (reqLaneReset payload s).1 := by
  unfold reqLaneReset
  split
  · exact Changes.refl s
  · rename_i l _
    have hflush : Changes s (flushLane l s) :=
      flushLane_keeps (P := Changes s) l (fun tag u hu => hu.trans (changes_flushSlot tag)) s
        (Changes.refl s)
    have hlane : Change (flushLane l s) (setLane l
        { (flushLane l s).lanes[l.val] with state := resetState s.lanes[l.val].state }
        (flushLane l s)) := by
      refine .lane fun h => ?_
      simp only [flushLane_lanes] at h ⊢
      cases hs : s.lanes[l.val].state <;> simpa [Lane.agrees, resetState, hs] using h
    exact (hflush.snoc hlane).trans (changes_arbitrate _ _)

theorem changes_reqEvtSet : Changes s (reqEvtSet payload s).1 := by
  unfold reqEvtSet
  split
  · exact Changes.refl s
  · split
    · exact Changes.refl s
    · split
      · exact Change.disabled.chain
      · split
        · exact Changes.refl s
        · rename_i hidle
          split
          · exact Changes.refl s
          · rename_i hattn
            exact (Change.enabled (by simpa using hidle) (by simpa using hattn)).chain

theorem changes_reqEvtAck : Changes s (reqEvtAck payload s).1 := by
  unfold reqEvtAck
  split
  · exact Changes.refl s
  · split
    case h_3 h => exact (Change.acknowledged h).chain
    all_goals exact Changes.refl s

theorem changes_reqCfgImage : Changes s (reqCfgImage payload s).1 := by
  unfold reqCfgImage
  dsimp only
  split
  · exact Changes.refl s
  · split
    · split
      · exact Changes.refl s
      · exact Change.quiet.chain
    · split
      · exact Changes.refl s
      · split <;> exact Changes.refl s

theorem changes_reqCredit : Changes s (reqCredit payload s).1 := by
  unfold reqCredit
  split
  · exact Changes.refl s
  · exact (Change.credits fun _ => min_le_right _ _).chain

/-- A request that the link state admits finds it OPEN, but for three kinds (R153). -/
theorem linkRefusal_none {r : Request} {link : LinkState} (h : linkRefusal r link = none) :
    link ≠ .loading ∧
      (link = .opened ∧ r ≠ .openSession ∨
        link = .closed ∧ (r = .identify ∨ r = .openSession ∨ r = .submit)) := by
  cases link <;> cases r <;> simp [linkRefusal] at h ⊢

/-- What a block does with a request is a chain of changes (R149). -/
theorem changes_serve {r : Request} (hrun : s.inReset = false)
    (hadmit : linkRefusal r s.link = none) : Changes s (serve r payload s).1 := by
  obtain ⟨hload, hopened | ⟨hclosed, hr⟩⟩ := linkRefusal_none hadmit
  · obtain ⟨hlink, hr⟩ := hopened
    cases r with
    | identify => exact Changes.refl s
    | openSession => exact absurd rfl hr
    | closeSession => exact (Change.linkReset hload).chain
    | credit => exact changes_reqCredit payload
    | winSet => exact changes_reqWinSet payload hrun hlink
    | winOpen => exact changes_reqWinOpen payload hrun hlink
    | winClose => exact changes_reqWinClose payload
    | winFree => exact changes_reqWinFree payload hrun hlink
    | winQuery => exact changes_reqWinQuery payload
    | profSet => exact changes_reqProfSet payload
    | profQuery => exact changes_reqProfQuery payload
    | submit => exact changes_reqSubmit payload
    | collect => exact changes_reqCollect payload
    | abort => exact changes_reqAbort payload
    | slotQuery => exact changes_reqSlotQuery payload
    | laneQuery => exact changes_reqLaneQuery payload
    | laneResume => exact changes_reqLaneResume payload
    | laneReset => exact changes_reqLaneReset payload
    | evtSet => exact changes_reqEvtSet payload
    | evtAck => exact changes_reqEvtAck payload
    | evtQuery => exact Changes.refl s
    | cfgImage => exact changes_reqCfgImage payload
  · rcases hr with rfl | rfl | rfl
    · exact Changes.refl s
    · exact (Change.session hclosed).chain
    · exact changes_reqSubmit payload

end Requests

/-- The execution of a frame, before its reply is queued, is a chain of changes (R149). -/
theorem changes_answer {s : State} (f : Frame) (hrun : s.inReset = false) :
    Changes s (answer f s).1 := by
  unfold answer
  split
  · exact Changes.refl s
  · split
    · exact Changes.refl s
    · rename_i hadmit
      split
      · exact changes_serve f.payload hrun hadmit
      · exact Changes.refl s

/-! ## Moves of the link -/

/-- One move of the part: a change of the blocks, or a change of the link's own fields. -/
inductive Move : State → State → Prop where
  | change {s t : State} (h : Change s t) : Move s t
  /-- Frames join the inbound buffer or leave it (R147, R148). -/
  | inbound {s : State} {frames : List Frame}
      (within : s.inbound.length ≤ 2 → frames.length ≤ 2) : Move s { s with inbound := frames }
  /-- Replies join the reply queue or leave it (R151). -/
  | replies {s : State} {frames : List Frame}
      (within : s.replies.length ≤ 2 → frames.length ≤ 2) : Move s { s with replies := frames }
  /-- A completion is pushed (R99). -/
  | push {s : State} {tag : Tag} (waits : tag ∈ s.delivery) : Move s (choosePush tag s)
  /-- A notice is sent (R125). -/
  | notice {s : State} {e : SrcIx} {rest : List SrcIx} (waits : s.notices = e :: rest) :
      Move s (chooseNotice e rest s)
  /-- A cold reset begins (R174). -/
  | cold {s : State} : Move s (coldState s)
  /-- A cold reset ends without a load (R175). -/
  | released {s : State} (held : s.inReset = true) :
      Move s { s with inReset := false, link := .closed }
  /-- A cold reset ends with a load (R175, R179). -/
  | loading {s : State} (held : s.inReset = true) :
      Move s (startLoad { s with inReset := false })

/-- A chain of moves. -/
def Moves : State → State → Prop := Relation.ReflTransGen Move

theorem Moves.refl (s : State) : Moves s s := Relation.ReflTransGen.refl

theorem Moves.trans {s t u : State} (h : Moves s t) (h' : Moves t u) : Moves s u :=
  Relation.ReflTransGen.trans h h'

theorem Moves.snoc {s t u : State} (h : Moves s t) (h' : Move t u) : Moves s u :=
  Relation.ReflTransGen.tail h h'

theorem Move.chain {s t : State} (h : Move s t) : Moves s t := Relation.ReflTransGen.single h

theorem Changes.moves {s t : State} (h : Changes s t) : Moves s t := by
  induction h with
  | refl => exact Moves.refl s
  | tail _ hc ih => exact ih.snoc (.change hc)

theorem Change.moves {s t : State} (h : Change s t) : Moves s t := h.chain.moves

theorem Moves.keeps {P : State → Prop} (h : ∀ s t : State, Move s t → P s → P t)
    {s t : State} (hst : Moves s t) (hs : P s) : P t := by
  induction hst with
  | refl => exact hs
  | tail _ hm ih => exact h _ _ hm ih

/-- The tag offered stands in the delivery queue (R98). -/
theorem offered_mem {s : State} {tag : Tag} (h : offered s = some tag) : tag ∈ s.delivery :=
  List.mem_of_find?_eq_some h

/-- The transmitter's choice is a chain of moves (R111). -/
theorem moves_choose (s : State) : Moves s (choose s) := by
  rcases choose_cases s with ⟨h, -⟩ | ⟨f, rest, -, hr, h⟩ | ⟨tag, -, -, -, -, ho, h⟩ |
    ⟨e, rest, -, -, -, -, hn, h⟩ <;> rw [h]
  · exact Moves.refl s
  · exact (Move.replies (fun hle => by rw [hr] at hle; exact Nat.le_of_succ_le hle)).chain.trans
      Change.quiet.moves
  · exact (Move.push (offered_mem ho)).chain
  · exact (Move.notice hn).chain

@[simp] theorem choose_inReset (s : State) : (choose s).inReset = s.inReset := by
  rcases choose_cases s with ⟨h, -⟩ | ⟨f, rest, -, -, h⟩ | ⟨tag, -, -, -, -, -, h⟩ |
    ⟨e, rest, -, -, -, -, -, h⟩ <;> rw [h] <;> rfl

@[simp] theorem choose_pending (s : State) : (choose s).pending = s.pending := by
  rcases choose_cases s with ⟨h, -⟩ | ⟨f, rest, -, -, h⟩ | ⟨tag, -, -, -, -, -, h⟩ |
    ⟨e, rest, -, -, -, -, -, h⟩ <;> rw [h] <;> rfl

/-- A dispatch is a chain of moves (R148). -/
theorem moves_dispatch {s : State} (f : Frame) (hrun : s.inReset = false)
    (hroom : s.replies.length < replyCapacity) : Moves s (dispatch f s) := by
  unfold dispatch
  split
  · exact (Move.replies fun _ => by simpa [replyCapacity] using hroom).chain
  · have ha := changes_answer f hrun
    have hr : (answer f s).1.replies.length < 2 := by
      rcases ha.linkKept.replies with h | h <;> simp only [h]
      · exact hroom
      · exact Nat.zero_lt_two
    have hqueued : Move (answer f s).1 { (answer f s).1 with
        replies := (answer f s).1.replies ++ [replyFrame f (answer f s).2] } :=
      .replies fun _ => by simpa using hr
    exact (ha.moves.snoc hqueued).trans Change.quiet.moves

theorem dispatch_linkKept {s : State} (f : Frame) (hrun : s.inReset = false) :
    (dispatch f s).inReset = s.inReset ∧ (dispatch f s).inbound = s.inbound ∧
      (dispatch f s).pending = s.pending ∧
      (s.lkAtGrant = none → (dispatch f s).lkAtGrant = none) := by
  unfold dispatch
  split
  · exact ⟨rfl, rfl, rfl, id⟩
  · have ha := (changes_answer f hrun).linkKept
    exact ⟨ha.inReset, ha.inbound, ha.pending, fun h => ha.levels.elim (·.trans h) id⟩

/-- What an event leaves to settle is a chain of moves (R110, R148). -/
theorem moves_settle {s : State} (hrun : s.inReset = false) : Moves s (settle s) := by
  refine (settle_keeps (P := fun u => Moves s u ∧ u.inReset = false) ?_ ?_ s
    ⟨Moves.refl s, hrun⟩).1
  · intro f rest u hin hroom hu
    have hpop : Moves s { u with inbound := rest } :=
      hu.1.snoc (.inbound fun h => by rw [hin] at h; exact Nat.le_of_succ_le h)
    have hrun' : ({ u with inbound := rest } : State).inReset = false := hu.2
    exact ⟨hpop.trans (moves_dispatch f hrun' hroom),
      (dispatch_linkKept f hrun').1.trans hrun'⟩
  · intro u hu
    exact ⟨hu.1.trans (moves_choose u), (choose_inReset u).trans hu.2⟩

/-- How a command ends is a chain of moves (R110, R115, R148). -/
theorem moves_afterEvent {s : State} (hrun : s.inReset = false) : Moves s (afterEvent s) :=
  (moves_settle hrun).trans Change.quiet.moves

/-! ## Commands -/

/-- A command of a running part ends in the settled event; of a held one, in the same state. -/
theorem whileRunning_next {s u t : State} (h : whileRunning s u = .next t) :
    s.inReset = true ∧ t = s ∨ s.inReset = false ∧ t = afterEvent u := by
  unfold whileRunning at h
  split at h
  · rename_i hheld; cases h; exact .inl ⟨hheld, rfl⟩
  · rename_i hrun; cases h; exact .inr ⟨by simpa using hrun, rfl⟩

theorem withLk_inReset (lk : LkLevels) (s : State) : (withLk lk s).inReset = s.inReset := by
  unfold withLk; split <;> rfl

/-- How a command may end. -/
inductive Ending (s : State) : State → Prop where
  /-- The command changes nothing. -/
  | unchanged : Ending s s
  /-- A cold reset begins (R174). -/
  | cold : Ending s (coldState s)
  /-- A pin changes while the part is held in cold reset (log 4). -/
  | held (n : Target) (level : Bool) : Ending s (heldPin n level s)
  /-- A running part makes its moves and settles (R110, R115, R148). -/
  | settled {u : State} (made : Moves s u) (running : u.inReset = false) : Ending s (afterEvent u)
  /-- So too a LANE_RESUME with levels for its grant, which are then dropped (log 3). -/
  | resumed {g : Option LkLevels} {u : State} (made : Moves { s with lkAtGrant := g } u)
      (running : u.inReset = false) : Ending s { afterEvent u with lkAtGrant := none }

/-- An event's own moves, then what they leave to settle. -/
theorem ending_whileRunning {s u t : State} (hu : Moves s u) (hsame : u.inReset = s.inReset)
    (h : whileRunning s u = .next t) : Ending s t := by
  rcases whileRunning_next h with ⟨-, rfl⟩ | ⟨hrun, rfl⟩
  · exact .unchanged
  · exact .settled hu (hsame.trans hrun)

theorem ending_changes {s u t : State} (hu : Changes s u) (h : whileRunning s u = .next t) :
    Ending s t :=
  ending_whileRunning hu.moves hu.linkKept.inReset h

theorem changes_withLk (lk : LkLevels) (s : State) : Changes s (withLk lk s) := by
  unfold withLk
  split
  · exact Changes.refl s
  · exact Change.quiet.chain

theorem moves_offerFrame (f : Frame) (s : State) : Moves s (offerFrame f s) := by
  unfold offerFrame
  split
  · rename_i hroom
    exact (Move.inbound fun _ => by simpa [inboundCapacity] using hroom).chain
  · exact Change.occurrence.moves

theorem offerFrame_inReset (f : Frame) (s : State) : (offerFrame f s).inReset = s.inReset := by
  unfold offerFrame; split <;> rfl

theorem ending_deliver {f : Frame} {s t : State} (h : deliver f s = .next t) : Ending s t := by
  unfold deliver at h
  split at h
  · exact ending_whileRunning (moves_offerFrame f s) (offerFrame_inReset f s) h
  · cases h

theorem changes_huntDiscard (s : State) : Changes s (huntDiscard s) := by
  unfold huntDiscard
  split
  · exact Changes.refl s
  · exact (Change.quiet (s := s)).chain.snoc Change.occurrence

/-- A received byte, but for a frame that it completes, is a chain of changes (R140–R143). -/
theorem moves_receive (b : Byte) (s : State) :
    Moves s (receive b s) ∧ (receive b s).inReset = s.inReset := by
  have reset : ∀ bit : BitVec 32, Changes s (linkError bit (setReceiver Receiver.newHunt s)) :=
    fun _ => (Change.quiet (s := s)).chain.snoc Change.occurrence
  have both : ∀ u : State, Changes s u → Moves s u ∧ u.inReset = s.inReset :=
    fun u hu => ⟨hu.moves, hu.linkKept.inReset⟩
  unfold receive
  split
  · split
    · exact both _ Change.quiet.chain
    · exact both _ (changes_huntDiscard s)
  · split
    · exact both _ Change.quiet.chain
    · split
      · exact both _ Change.quiet.chain
      · exact both _ (reset _)
  · exact both _ Change.quiet.chain
  · split
    · exact ⟨(Change.quiet (s := s)).moves.trans (moves_offerFrame _ _), offerFrame_inReset _ _⟩
    · exact both _ (reset _)
  · exact both _ (Changes.refl s)

theorem changes_lineRises (s : State) : Changes s (lineRises s) := by
  unfold lineRises
  split
  · split
    · exact (Change.quiet (s := s)).chain.trans (changes_huntDiscard _)
    · exact Change.quiet.chain
  · exact Changes.refl s

theorem changes_gapExpires (s : State) : Changes s (gapExpires s) := by
  unfold gapExpires
  split
  · exact (Change.quiet (s := s)).chain.snoc Change.occurrence
  · exact Changes.refl s

theorem changes_lineFalls (s : State) : Changes s (lineFalls s) := by
  unfold lineFalls
  split
  · exact Changes.refl s
  · exact Change.quiet.chain

theorem moves_breakDetected (s : State) :
    Moves s (breakDetected s) ∧ (breakDetected s).inReset = s.inReset := by
  unfold breakDetected
  split
  · have hq : Change s (setReceiver { s.receiver with lineTimer := false } s) := .quiet
    dsimp only
    split
    · exact ⟨hq.moves, rfl⟩
    · rename_i hlink
      have hreset := hq.chain.snoc (.linkReset hlink)
      have hrun := hreset.linkKept.inReset
      generalize linkReset (setReceiver { s.receiver with lineTimer := false } s) = u at hreset hrun
      exact ⟨hreset.moves.snoc (.inbound fun _ => Nat.zero_le 2), hrun⟩
  · exact ⟨Moves.refl s, rfl⟩

theorem changes_retryExpires (tag : Tag) (s : State) : Changes s (retryExpires tag s) := by
  unfold retryExpires
  split
  · rename_i h
    have hqueued : Change s
        (setSlot tag { s.slots[tag.val] with state := .queued, retryTimer := none } s) :=
      .slot (Slot.inQueue_paused h) (Slot.inQueue_queued rfl) rfl rfl id (.inl rfl)
    exact hqueued.chain.trans (changes_arbitrate _ _)
  · exact Changes.refl s

theorem changes_holdExpires (tag : Tag) (s : State) : Changes s (holdExpires tag s) := by
  unfold holdExpires
  split
  · rename_i h
    exact (Change.discarded h.1).chain.snoc .occurrence
  · exact Changes.refl s

theorem changes_filterFall (t : Target) (s : State) : Changes s (filterFall t s) := by
  unfold filterFall
  split
  · split
    · exact (Change.quiet (s := s)).chain.snoc Change.occurrence
    · exact Change.quiet.chain
  all_goals exact Changes.refl s

theorem changes_filterExpires (t : Target) (s : State) : Changes s (filterExpires t s) := by
  unfold filterExpires
  split
  · exact (Change.quiet (s := s)).chain.snoc Change.occurrence
  all_goals exact Changes.refl s

theorem moves_releasedState (rate : BitVec 2) (cfgsrc : Bool) {s : State}
    (hheld : s.inReset = true) :
    Moves s (releasedState rate cfgsrc s) ∧ (releasedState rate cfgsrc s).inReset = false := by
  have hstraps : Change s { s with rateCode := rate, cfgsrc := cfgsrc } := .quiet
  unfold releasedState
  dsimp only
  split
  · have hload := hstraps.moves.snoc (.loading hheld)
    exact ⟨hload.trans (changes_arbitrate 0 _).moves, (changes_arbitrate 0 _).linkKept.inReset⟩
  · exact ⟨hstraps.moves.snoc (.released hheld), rfl⟩

/-- A held part does not read the LKn levels; a running one takes them (log 3). -/
theorem withLk_cases (lk : LkLevels) (s : State) :
    s.inReset = true ∧ withLk lk s = s ∨ s.inReset = false ∧ withLk lk s = { s with lk := lk } := by
  unfold withLk
  cases h : s.inReset
  · exact .inr ⟨rfl, by simp⟩
  · exact .inl ⟨rfl, by simp⟩

/-- A request row that samples LKn. -/
theorem ending_deliver_withLk {f : Frame} {lk : LkLevels} {s t : State}
    (h : deliver f (withLk lk s) = .next t) : Ending s t := by
  unfold deliver at h
  split at h
  · have hmoves : Moves s (offerFrame f (withLk lk s)) :=
      (changes_withLk lk s).moves.trans (moves_offerFrame f _)
    rcases whileRunning_next h with ⟨hheld, rfl⟩ | ⟨hrun, rfl⟩
    · rw [withLk_inReset] at hheld
      rw [withLk, if_pos hheld]
      exact .unchanged
    · exact .settled hmoves ((offerFrame_inReset f _).trans hrun)
  · cases h

theorem ending_laneResume {seq : Byte} {payload : List Byte} {lk lkGrant : LkLevels} {s t : State}
    (h : execLaneResume seq payload lk lkGrant s = .next t) : Ending s t := by
  unfold execLaneResume at h
  split at h
  · exact ending_deliver_withLk h
  · rename_i hne
    have hrun : s.inReset = false := by simpa using fun hheld => hne (.inr hheld)
    unfold deliver at h
    split at h
    · have hrun' : ({ withLk lk s with lkAtGrant := some lkGrant } : State).inReset = false :=
        (withLk_inReset lk s).trans hrun
      rw [whileRunning, if_neg (ne_true_of_eq_false hrun')] at h
      cases h
      refine .resumed (g := some lkGrant) (Moves.trans ?_ (moves_offerFrame _ _))
        ((offerFrame_inReset _ _).trans hrun')
      rw [withLk, if_neg (by simp [hrun])]
      exact Change.moves .quiet
    · cases h

/-- How every command ends. -/
theorem exec_ending {c : Instr} {s t : State} (h : exec c s = .next t) : Ending s t := by
  have running : ∀ {u v : State}, Changes s u → Moves u v → v.inReset = u.inReset →
      exec c s = whileRunning s v → Ending s t := fun hu hv hsame he =>
    ending_whileRunning (hu.moves.trans hv) (hsame.trans hu.linkKept.inReset) (he ▸ h)
  have finished : ∀ {u : State}, Changes s u → s.inReset = false → afterEvent u = t →
      Ending s t := by
    rintro u hu hrun rfl
    exact .settled hu.moves (hu.linkKept.inReset.trans hrun)
  cases c with
  | coldReset => cases h; exact .cold
  | coldResetEnd rate cfgsrc lk =>
    have h' : execColdResetEnd rate cfgsrc lk s = .next t := h
    unfold execColdResetEnd at h'
    split at h'
    · rename_i hheld
      cases h'
      have hrel := moves_releasedState rate cfgsrc (s := { s with lk := lk }) hheld
      exact .settled ((Change.quiet (s := s)).moves.trans hrel.1) hrel.2
    · cases h'; exact .unchanged
  | receiveByte b lk =>
    exact running (changes_withLk lk s) (moves_receive b _).1 (moves_receive b _).2 rfl
  | gapTimeout => exact ending_changes (changes_gapExpires s) h
  | lineLow => exact ending_changes (changes_lineFalls s) h
  | hrxRise => exact ending_changes (changes_lineRises s) h
  | lineBreak =>
    exact running (Changes.refl s) (moves_breakDetected s).1 (moves_breakDetected s).2 rfl
  | unknownKind seq kind payload =>
    have h' : execUnknownKind seq kind payload s = .next t := h
    unfold execUnknownKind at h'
    split at h'
    · cases h'
    · exact ending_deliver h'
  | laneResume seq payload lk lkGrant => exact ending_laneResume h
  | submit seq payload lk => exact ending_deliver_withLk h
  | abort seq payload lk => exact ending_deliver_withLk h
  | laneQuery seq payload lk => exact ending_deliver_withLk h
  | laneReset seq payload lk => exact ending_deliver_withLk h
  | frameSent lk => exact ending_changes ((changes_withLk lk s).snoc .quiet) h
  | accessEnd l data lk =>
    exact ending_changes ((changes_withLk lk s).trans (changes_endAccess l data _)) h
  | laneFault l lk => exact ending_changes ((changes_withLk lk s).trans (changes_cutAccess l _)) h
  | retryExpiry tag lk =>
    exact ending_changes ((changes_withLk lk s).trans (changes_retryExpires tag _)) h
  | holdExpiry tag => exact ending_changes (changes_holdExpires tag s) h
  | attnFall n =>
    have h' : execAttnFall n s = .next t := h
    unfold execAttnFall at h'
    split at h'
    · cases h'; exact .held n false
    · rename_i hrun
      have hrun' : s.inReset = false := by simpa using hrun
      split at h'
      · exact finished Change.quiet.chain hrun' (Host.Outcome.next.inj h')
      · exact finished ((Change.quiet (s := s)).chain.trans (changes_filterFall n _)) hrun'
          (Host.Outcome.next.inj h')
  | attnRise n =>
    have h' : execAttnRise n s = .next t := h
    unfold execAttnRise at h'
    split at h'
    · cases h'; exact .held n true
    · rename_i hrun
      have hrun' : s.inReset = false := by simpa using hrun
      split at h' <;> exact finished Change.quiet.chain hrun' (Host.Outcome.next.inj h')
  | filterExpiry n => exact ending_changes (changes_filterExpires n s) h
  | startBit => exact ending_changes Change.quiet.chain h
  | _ => exact ending_deliver h

/-- How every step ends. -/
theorem step_ending {s t : State} (h : step s = .next t) :
    t = s ∨ ∃ rest : List Instr, Ending { s with pending := rest } t := by
  unfold step at h
  split at h
  · cases h; exact .inl rfl
  · exact .inr ⟨_, exec_ending h⟩

/-- A law that every move keeps and that says nothing of the waiting commands and the levels for a
grant is kept by every step. -/
theorem step_keeps {P : State → Prop} (hmove : ∀ s t : State, Move s t → P s → P t)
    (hown : ∀ (s : State) (rest : List Instr) (g : Option LkLevels), P s →
      P { s with pending := rest, lkAtGrant := g })
    {s t : State} (h : step s = .next t) (hs : P s) : P t := by
  rcases step_ending h with rfl | ⟨rest, hend⟩
  · exact hs
  · have hs' : P { s with pending := rest } := hown s rest s.lkAtGrant hs
    cases hend with
    | unchanged => exact hs'
    | cold => exact hmove _ _ .cold hs'
    | held n level => exact hmove _ _ (.change (.quiet (s := { s with pending := rest }))) hs'
    | settled made running => exact (made.trans (moves_afterEvent running)).keeps hmove hs'
    | resumed made running =>
      have hu := (made.trans (moves_afterEvent running)).keeps hmove (hown s rest _ hs)
      exact hown _ _ none hu

end Sys2Proof.Machine
end

section
/-! PROOFS. The laws of the link and the bounds: the transmitter settled, the capacities, the lanes, the
discard list and the progress; and which commands complete. -/

namespace Sys2Proof.Machine

/-! ## The transmitter and dispatch -/

/-- ALERTn, once driven, shows its condition (R115). -/
theorem alertLaw_driveAlert (s : State) : AlertLaw (driveAlert s) := rfl

/-- With a dispatch allowed for every frame that waits, none that could be made is left (R148). -/
theorem settled_dispatchFor (n : Nat) {s : State} (hrun : s.inReset = false)
    (ht : TransmitterSettled s) (hn : s.inbound.length ≤ n) : Settled (dispatchFor n s) := by
  induction n generalizing s with
  | zero => exact ⟨ht, fun h => absurd (List.length_eq_zero_iff.mp (Nat.le_zero.mp hn)) h⟩
  | succ n ih =>
    unfold dispatchFor
    split
    · rename_i hin
      exact ⟨ht, fun h => absurd hin h⟩
    · rename_i f rest hin
      split
      · have hrun' : ({ s with inbound := rest } : State).inReset = false := hrun
        obtain ⟨hres, hrest, -⟩ := dispatch_linkKept f hrun'
        refine ih ?_ (choose_settles _) ?_
        · rw [choose_inReset, hres]; exact hrun
        · rw [choose_inbound, hrest]
          rw [hin] at hn
          exact Nat.le_of_succ_le_succ hn
      · rename_i hfull
        exact ⟨ht, fun _ => Nat.not_lt.mp hfull⟩

/-- What an event leaves is settled (R110, R111, R115, R148). -/
theorem settled_afterEvent {s : State} (hrun : s.inReset = false) :
    Settled (afterEvent s) ∧ AlertLaw (afterEvent s) :=
  ⟨settled_dispatchFor _ ((choose_inReset s).trans hrun) (choose_settles s) le_rfl,
    alertLaw_driveAlert _⟩

/-- A part in cold reset has nothing to send (R117, R160). -/
theorem settled_coldState (s : State) : Settled (coldState s) ∧ AlertLaw (coldState s) := by
  refine ⟨⟨fun _ => ⟨rfl, fun h => ?_⟩, fun h => absurd rfl h⟩, rfl⟩
  have hclosed : LinkState.closed = .opened := h.1
  cases hclosed

/-- Settles O54: every command that is not idle ends settled, or in a cold reset. -/
theorem stepsKeepTheTransmitterSettled : Obligations.StepsKeepTheTransmitterSettled := by
  intro s t hs ha hstep
  rcases step_ending hstep with rfl | ⟨rest, hend⟩
  · exact ⟨hs, ha⟩
  · cases hend with
    | unchanged => exact ⟨hs, ha⟩
    | cold => exact settled_coldState _
    | held n level => exact ⟨hs, ha⟩
    | settled made running => exact settled_afterEvent running
    | resumed made running => exact settled_afterEvent running

/-! ## Commands that complete -/

theorem Move.pending {s t : State} (h : Move s t) : t.pending = s.pending := by
  cases h with
  | change h => exact h.linkKept.pending
  | _ => rfl

theorem Ending.pending {s t : State} (h : Ending s t) : t.pending = s.pending := by
  have moved : ∀ {u v : State}, Moves u v → v.pending = u.pending := fun hm =>
    hm.keeps (P := fun v => v.pending = _) (fun _ _ hmove hp => hmove.pending.trans hp) rfl
  cases h with
  | unchanged => rfl
  | cold => rfl
  | held n level => rfl
  | settled made running => exact moved (made.trans (moves_afterEvent running))
  | resumed made running =>
    have hp := moved (made.trans (moves_afterEvent running))
    exact hp

/-- The kinds that name a request are the twenty-two of Table 8-2 (R162). -/
theorem requestOf_isSome_iff (kind : Byte) :
    (requestOf kind).isSome = requestKinds.contains kind := by
  have hkinds : requestKinds = allRequests.map Request.code := rfl
  rw [Bool.eq_iff_iff, requestOf, List.find?_isSome, hkinds]
  simp

/-- A frame that is a command arrives; another one faults (log 12). -/
theorem deliver_fits {f : Frame} (s : State) (h : payloadFits f.payload = true) :
    ∃ t, deliver f s = .next t := by
  unfold deliver whileRunning finish
  rw [if_pos h]
  split <;> exact ⟨_, rfl⟩

theorem deliver_overlong {f : Frame} (s : State) (h : payloadFits f.payload = false) :
    ∃ r, deliver f s = .fault r := by
  unfold deliver
  rw [if_neg (by simp [h])]
  exact ⟨_, rfl⟩

theorem whileRunning_completes (s u : State) : ∃ t, whileRunning s u = .next t := by
  unfold whileRunning finish
  split <;> exact ⟨_, rfl⟩

/-- A LANE_RESUME is its frame's arrival, with or without levels for its grant (log 3). -/
theorem execLaneResume_cases (seq : Byte) (payload : List Byte) (lk lkGrant : LkLevels)
    (s : State) :
    (∃ u, execLaneResume seq payload lk lkGrant s =
      deliver (requestFrame .laneResume seq payload) u) ∨
    ∃ u, execLaneResume seq payload lk lkGrant s =
      forgetGrantLevels (deliver (requestFrame .laneResume seq payload) u) := by
  unfold execLaneResume
  split
  · exact .inl ⟨_, rfl⟩
  · exact .inr ⟨_, rfl⟩

/-- A well-formed command answers a next state. -/
theorem exec_completes (c : Instr) (s : State) (h : c.wellFormed = true) :
    ∃ t, exec c s = .next t := by
  cases c with
  | coldReset => exact ⟨_, rfl⟩
  | coldResetEnd rate cfgsrc lk =>
    show ∃ t, execColdResetEnd rate cfgsrc lk s = .next t
    unfold execColdResetEnd finish
    split <;> exact ⟨_, rfl⟩
  | unknownKind seq kind payload =>
    obtain ⟨hfits, hkind⟩ := Bool.and_eq_true_iff.mp h
    show ∃ t, execUnknownKind seq kind payload s = .next t
    unfold execUnknownKind
    rw [if_neg (by rw [requestOf_isSome_iff]; simpa using hkind)]
    exact deliver_fits _ hfits
  | laneResume seq payload lk lkGrant =>
    show ∃ t, execLaneResume seq payload lk lkGrant s = .next t
    rcases execLaneResume_cases seq payload lk lkGrant s with ⟨u, hu⟩ | ⟨u, hu⟩ <;> rw [hu]
    · exact deliver_fits u h
    · obtain ⟨t, ht⟩ := deliver_fits (f := requestFrame .laneResume seq payload) u h
      rw [ht]
      exact ⟨_, rfl⟩
  | attnFall n =>
    show ∃ t, execAttnFall n s = .next t
    unfold execAttnFall finish
    split
    · exact ⟨_, rfl⟩
    · split <;> exact ⟨_, rfl⟩
  | attnRise n =>
    show ∃ t, execAttnRise n s = .next t
    unfold execAttnRise finish
    split
    · exact ⟨_, rfl⟩
    · split <;> exact ⟨_, rfl⟩
  | receiveByte | gapTimeout | lineLow | hrxRise | lineBreak | frameSent | accessEnd | laneFault
  | retryExpiry | holdExpiry | filterExpiry | startBit => exact whileRunning_completes _ _
  | _ => exact deliver_fits _ h

/-- An ill-formed command faults (log 12). -/
theorem exec_faults (c : Instr) (s : State) (h : c.wellFormed = false) :
    ∃ r, exec c s = .fault r := by
  cases c with
  | unknownKind seq kind payload =>
    show ∃ r, execUnknownKind seq kind payload s = .fault r
    unfold execUnknownKind
    split
    · exact ⟨_, rfl⟩
    · rename_i hkind
      rw [requestOf_isSome_iff] at hkind
      rcases Bool.and_eq_false_iff.mp h with hfits | hknown
      · exact deliver_overlong _ hfits
      · exact absurd (by simpa using hknown) hkind
  | laneResume seq payload lk lkGrant =>
    show ∃ r, execLaneResume seq payload lk lkGrant s = .fault r
    rcases execLaneResume_cases seq payload lk lkGrant s with ⟨u, hu⟩ | ⟨u, hu⟩ <;> rw [hu]
    · exact deliver_overlong u h
    · obtain ⟨r, hr⟩ := deliver_overlong (f := requestFrame .laneResume seq payload) u h
      rw [hr]
      exact ⟨_, rfl⟩
  | coldReset | coldResetEnd | receiveByte | gapTimeout | lineLow | hrxRise | lineBreak
  | frameSent | accessEnd | laneFault | retryExpiry | holdExpiry | attnFall | attnRise
  | filterExpiry | startBit => cases h
  | _ => exact deliver_overlong _ h

/-- Settles O2: a command completes or faults by its operands; what completes keeps the queue. -/
theorem wellFormedCommandsComplete : Obligations.WellFormedCommandsComplete := by
  refine fun c s => ⟨fun h => ?_, exec_faults c s⟩
  obtain ⟨t, ht⟩ := exec_completes c s h
  exact ⟨t, ht, (exec_ending ht).pending⟩

/-- Settles O1. -/
theorem stepRunsFrontCommand : Obligations.StepRunsFrontCommand := by
  refine ⟨fun c rest s => rfl, fun s h => ?_⟩
  rw [step, h]

/-! ## A held part -/

theorem deliver_held {f : Frame} {s : State} (hheld : s.inReset = true)
    (hfits : payloadFits f.payload = true) : deliver f s = .next s := by
  rw [deliver, if_pos hfits, whileRunning, if_pos hheld]

theorem withLk_held {s : State} (lk : LkLevels) (hheld : s.inReset = true) : withLk lk s = s :=
  if_pos hheld

/-- Held in cold reset, the part takes no other command than those of the reset and the pins
(R174, log 4). -/
theorem exec_held (c : Instr) {s : State} (hheld : s.inReset = true) (hwf : c.wellFormed = true)
    (hacts : actsWhileHeld c = false) : exec c s = .next s := by
  have sampled : ∀ (f : Frame) (lk : LkLevels), payloadFits f.payload = true →
      deliver f (withLk lk s) = .next s := fun f lk hf => by
    rw [withLk_held lk hheld, deliver_held hheld hf]
  cases c with
  | coldReset | coldResetEnd | attnFall | attnRise => cases hacts
  | unknownKind seq kind payload =>
    obtain ⟨hfits, hkind⟩ := Bool.and_eq_true_iff.mp hwf
    show execUnknownKind seq kind payload s = .next s
    rw [execUnknownKind, if_neg (by rw [requestOf_isSome_iff]; simpa using hkind)]
    exact deliver_held hheld hfits
  | laneResume seq payload lk lkGrant =>
    show execLaneResume seq payload lk lkGrant s = .next s
    rw [execLaneResume, if_pos (.inr hheld)]
    exact sampled _ lk hwf
  | submit seq payload lk => exact sampled _ lk hwf
  | abort seq payload lk => exact sampled _ lk hwf
  | laneQuery seq payload lk => exact sampled _ lk hwf
  | laneReset seq payload lk => exact sampled _ lk hwf
  | receiveByte | gapTimeout | lineLow | hrxRise | lineBreak | frameSent | accessEnd | laneFault
  | retryExpiry | holdExpiry | filterExpiry | startBit => exact if_pos hheld
  | _ => exact deliver_held hheld hwf

/-- Settles O3: the commands that act while held are the reset's and the pins'. -/
theorem heldPartKeepsItsState : Obligations.HeldPartKeepsItsState := by
  refine ⟨fun c s hheld hwf hacts => exec_held c hheld hwf hacts, fun n s hheld => ⟨?_, ?_⟩⟩
  · exact if_pos hheld
  · exact if_pos hheld

/-! ## Capacities, lanes and kept levels -/

theorem nextSession_le (n : Nat) : nextSession n ≤ 255 := by unfold nextSession; split <;> omega

/-- The lengths of all queues stay within bound when one of them does. -/
theorem queues_set_le {q : Vector (List Tag) 8} {t : Target} {tags : List Tag}
    (h : ∀ x : Target, q[x.val].length ≤ 16) (ht : tags.length ≤ 16) (x : Target) :
    (q.set t.val tags)[x.val].length ≤ 16 := by
  rw [getElem_set_fin]
  split
  · exact ht
  · exact h x

theorem Change.bounded {s t : State} (h : Change s t) (hs : Bounded s) : Bounded t := by
  obtain ⟨hin, hrep, hcred, hdisc, hsess, hhold, hq⟩ := hs
  cases h with
  | done =>
    rw [enterDone_eq, lowerCount_eq]
    exact ⟨hin, hrep, hcred, hdisc, hsess, hhold,
      queues_set_le hq ((List.length_filter_le _ _).trans (hq _))⟩
  | orphanFreed => rw [freeOrphan, lowerCount_eq]; exact ⟨hin, hrep, hcred, hdisc, hsess, hhold, hq⟩
  | discarded =>
    refine ⟨hin, hrep, hcred, ?_, hsess, hhold, hq⟩
    show ((if 8 ≤ s.discards.length then s.discards.drop 1 else s.discards) ++ [_]).length ≤ 8
    rw [List.length_append, List.length_singleton]
    split
    · rw [List.length_drop]; omega
    · omega
  | accepted free opened room =>
    exact ⟨hin, hrep, hcred, (List.length_filter_le _ _).trans hdisc, hsess, hhold,
      queues_set_le hq (by rw [List.length_append]; exact room)⟩
  | profile => rw [takeProfile_frame]; exact ⟨hin, hrep, hcred, hdisc, hsess, hhold, hq⟩
  | credits within => exact ⟨hin, hrep, within hcred, hdisc, hsess, hhold, hq⟩
  | @session hold link =>
    exact ⟨hin, hrep, hcred, hdisc, nextSession_le _, Nat.le_of_lt_succ hold.isLt, hq⟩
  | linkReset =>
    rw [linkReset_frame]
    exact ⟨hin, Nat.zero_le _, Nat.zero_le _, Nat.zero_le _, hsess,
      (by decide : defaultHoldTime ≤ 255), fun t => by simp⟩
  | image => rw [applyImage_frame]; exact ⟨hin, hrep, hcred, hdisc, hsess, hhold, hq⟩
  | _ => exact ⟨hin, hrep, hcred, hdisc, hsess, hhold, hq⟩

theorem Change.laneLaw {s t : State} (h : Change s t) (hs : LaneLaw s) : LaneLaw t := by
  cases h with
  | done => rw [enterDone_eq, lowerCount_eq]; exact hs
  | orphanFreed => rw [freeOrphan, lowerCount_eq]; exact hs
  | @lane l r agrees =>
    intro x
    show ((s.lanes.set l.val r)[x.val]).agrees
    rw [getElem_set_fin]
    split
    · exact agrees (hs l)
    · exact hs x
  | profile => rw [takeProfile_frame]; exact hs
  | linkReset => rw [linkReset_frame]; exact hs
  | image => rw [applyImage_frame]; exact hs
  | _ => exact hs

theorem bounded_coldState (s : State) : Bounded (coldState s) :=
  ⟨Nat.zero_le _, Nat.zero_le _, Nat.zero_le _, Nat.zero_le _, Nat.zero_le _,
    (by decide : defaultHoldTime ≤ 255), fun t => by rw [coldState_queue]; exact Nat.zero_le _⟩

theorem laneLaw_coldState (s : State) : LaneLaw (coldState s) := by
  intro l
  rw [coldState_lane]
  decide

theorem Move.boundsAndLanes {s t : State} (h : Move s t) (hs : Bounded s ∧ LaneLaw s) :
    Bounded t ∧ LaneLaw t := by
  obtain ⟨⟨hin, hrep, hcred, hrest⟩, hl⟩ := hs
  cases h with
  | change h => exact ⟨h.bounded ⟨hin, hrep, hcred, hrest⟩, h.laneLaw hl⟩
  | inbound within => exact ⟨⟨within hin, hrep, hcred, hrest⟩, hl⟩
  | replies within => exact ⟨⟨hin, within hrep, hcred, hrest⟩, hl⟩
  | push => exact ⟨⟨hin, hrep, (Nat.sub_le _ _).trans hcred, hrest⟩, hl⟩
  | notice => exact ⟨⟨hin, hrep, (Nat.sub_le _ _).trans hcred, hrest⟩, hl⟩
  | cold => exact ⟨bounded_coldState s, laneLaw_coldState s⟩
  | released => exact ⟨⟨hin, hrep, hcred, hrest⟩, hl⟩
  | loading => exact ⟨⟨hin, hrep, hcred, hrest⟩, hl⟩

theorem Move.grantLevelsLaw {s t : State} (h : Move s t) (hs : GrantLevelsLaw s) :
    GrantLevelsLaw t := by
  cases h with
  | change h => exact h.linkKept.levels.elim (·.trans hs) id
  | cold => rfl
  | _ => exact hs

/-- Between commands no levels are kept: a LANE_RESUME drops those it had (log 3). -/
theorem Ending.grantLevelsLaw {s t : State} (h : Ending s t) (hs : GrantLevelsLaw s) :
    GrantLevelsLaw t := by
  cases h with
  | unchanged => exact hs
  | cold => rfl
  | held n level => exact hs
  | settled made running =>
    exact (made.trans (moves_afterEvent running)).keeps (fun _ _ h => h.grantLevelsLaw) hs
  | resumed made running => rfl

/-- Settles O55: each move keeps the capacities and the lanes, each ending the absence of levels. -/
theorem stepsKeepBoundsAndLanes : Obligations.StepsKeepBoundsAndLanes := by
  intro s t hb hl hg hstep
  obtain ⟨hb', hl'⟩ := step_keeps (P := fun u => Bounded u ∧ LaneLaw u)
    (fun _ _ h => h.boundsAndLanes) (fun _ _ _ h => h) hstep ⟨hb, hl⟩
  refine ⟨hb', hl', ?_⟩
  rcases step_ending hstep with rfl | ⟨rest, hend⟩
  · exact hg
  · exact hend.grantLevelsLaw hg

/-! ## The discard list and the progress -/

/-- A slot is written, and the discarded tags stay on FREE slots (R106). -/
theorem discards_set {s : State} {tag : Tag} {sl : Slot} (hs : DiscardLaw s)
    (h : s.slots[tag.val].state ≠ .free ∨ sl.state = .free) {x : Tag} (hx : x ∈ s.discards) :
    (s.slots.set tag.val sl)[x.val].state = .free := by
  rw [getElem_set_fin]
  split
  · rename_i he
    subst he
    exact h.resolve_left (not_not.mpr (hs.1 x hx))
  · exact hs.1 x hx

theorem Slot.inQueue_not_free {sl : Slot} (h : sl.inQueue) : sl.state ≠ .free := by
  rcases h with h | h | h <;> simp [h]

theorem Change.discardLaw {s t : State} (h : Change s t) (hs : DiscardLaw s) : DiscardLaw t := by
  cases h with
  | slot stood => exact ⟨fun x hx => discards_set hs (.inl (Slot.inQueue_not_free stood)) hx, hs.2⟩
  | done stood =>
    rw [enterDone_eq, lowerCount_eq]
    exact ⟨fun x hx => discards_set hs (.inl (Slot.inQueue_not_free stood)) hx, hs.2⟩
  | orphanFreed =>
    rw [freeOrphan, lowerCount_eq]
    exact ⟨fun x hx => discards_set hs (.inr rfl) hx, hs.2⟩
  | taken => exact ⟨fun x hx => discards_set hs (.inr rfl) hx, hs.2⟩
  | @discarded tag done =>
    have hkept : ∀ x ∈ (if 8 ≤ s.discards.length then s.discards.drop 1 else s.discards),
        x ∈ s.discards := by
      intro x hx
      split at hx
      · exact List.mem_of_mem_drop hx
      · exact hx
    have hnew : tag ∉ s.discards := fun hx => by simpa [done] using hs.1 tag hx
    constructor
    · intro x hx
      rcases List.mem_append.mp hx with hx | hx
      · exact discards_set hs (.inr rfl) (hkept x hx)
      · rw [List.mem_singleton.mp hx]
        simp [Slot.freed]
    · show (_ ++ [tag]).Nodup
      refine List.Nodup.append ?_ (List.nodup_singleton tag) ?_
      · split
        · exact hs.2.sublist (List.drop_sublist 1 _)
        · exact hs.2
      · rintro x hx hx'
        rw [List.mem_singleton.mp hx'] at hx
        exact hnew (hkept tag hx)
  | @accepted payload tag i free =>
    refine ⟨fun x hx => ?_, hs.2.filter _⟩
    obtain ⟨hx, hne⟩ := List.mem_filter.mp hx
    show (s.slots.set tag.val _)[x.val].state = .free
    rw [getElem_set_fin, if_neg (by simpa using hne)]
    exact hs.1 x hx
  | profile => rw [takeProfile_frame]; exact hs
  | linkReset =>
    rw [linkReset_frame]
    exact ⟨fun x hx => absurd hx List.not_mem_nil, List.nodup_nil⟩
  | image => rw [applyImage_frame]; exact hs
  | _ => exact hs

/-- A slot is written within its length (R62). -/
theorem progressLaw_set {s : State} {tag : Tag} {sl : Slot} (hs : ProgressLaw s)
    (h : sl.progressWithin) (x : Tag) : ((s.slots.set tag.val sl)[x.val]).progressWithin := by
  rw [getElem_set_fin]
  split
  · exact h
  · exact hs x

theorem freed_progress : Slot.freed.progressWithin := Nat.zero_le _

theorem submitSlot_progress (payload : List Byte) (i : WinIx) (w : Window) (pageCode : Nat) :
    (submitSlot payload i w pageCode).progress = 0 := by
  unfold submitSlot; dsimp only; split <;> rfl

theorem progressLaw_linkResetSlot {s : State} (tag : Tag) (hs : ProgressLaw s) :
    ProgressLaw (linkResetSlot s tag) := by
  unfold linkResetSlot
  split
  · rw [lowerCount_eq]; exact progressLaw_set hs freed_progress
  · rw [lowerCount_eq]; exact progressLaw_set hs freed_progress
  · exact progressLaw_set hs (hs tag)
  · exact progressLaw_set hs freed_progress
  · exact hs
  · exact hs

theorem Change.progressLaw {s t : State} (h : Change s t) (hs : ProgressLaw s) :
    ProgressLaw t := by
  cases h with
  | slot stood stands target window progress head => exact progressLaw_set hs (progress (hs _))
  | @done tag => rw [enterDone_eq, lowerCount_eq]; exact progressLaw_set hs (hs tag)
  | orphanFreed => rw [freeOrphan, lowerCount_eq]; exact progressLaw_set hs freed_progress
  | taken => exact progressLaw_set hs freed_progress
  | discarded => exact progressLaw_set hs freed_progress
  | accepted =>
    refine progressLaw_set hs ?_
    rw [Slot.progressWithin, submitSlot_progress]
    exact Nat.zero_le _
  | profile => rw [takeProfile_frame]; exact hs
  | linkReset =>
    rw [linkReset_frame]
    have hslots := linkResetSlots_keeps (fun tag _ => progressLaw_linkResetSlot tag) s hs
    generalize linkResetSlots s = u at hslots ⊢
    exact hslots
  | image => rw [applyImage_frame]; exact hs
  | _ => exact hs

theorem discardsAndProgress_coldState (s : State) :
    DiscardLaw (coldState s) ∧ ProgressLaw (coldState s) := by
  refine ⟨⟨fun x hx => absurd hx List.not_mem_nil, List.nodup_nil⟩, fun x => ?_⟩
  rw [coldState_slot]
  exact freed_progress

theorem Move.discardsAndProgress {s t : State} (h : Move s t) (hs : DiscardLaw s ∧ ProgressLaw s) :
    DiscardLaw t ∧ ProgressLaw t := by
  obtain ⟨hd, hp⟩ := hs
  cases h with
  | change h => exact ⟨h.discardLaw hd, h.progressLaw hp⟩
  | push =>
    exact ⟨⟨fun x hx => discards_set hd (.inr rfl) hx, hd.2⟩, progressLaw_set hp freed_progress⟩
  | cold => exact discardsAndProgress_coldState s
  | _ => exact ⟨hd, hp⟩

/-- Settles O60. -/
theorem stepsKeepDiscardsAndProgress : Obligations.StepsKeepDiscardsAndProgress := by
  intro s t hd hp hstep
  exact step_keeps (P := fun u => DiscardLaw u ∧ ProgressLaw u) (fun _ _ h => h.discardsAndProgress)
    (fun _ _ _ h => h) hstep ⟨hd, hp⟩

end Sys2Proof.Machine
end

section
/-! PROOFS. The laws of the event sources: every change keeps the records, the notice queue and the
disabled source of a READY_LINE target. -/

namespace Sys2Proof.Machine

/-! ## Records and the notice queue -/

/-- One source is rewritten, and the notice queue follows its state (R124). -/
theorem eventLaw_set {s t : State} {e : SrcIx} {src : Source} (hs : EventLaw s)
    (hsources : t.sources = s.sources.set e.val src) (hsrc : SourceLaw src)
    (hmem : ∀ x : SrcIx, x ∈ t.notices ↔ if x = e then src.state = .queued else x ∈ s.notices)
    (hnodup : t.notices.Nodup) : EventLaw t := by
  obtain ⟨hsl, hq, -⟩ := hs
  refine ⟨fun x => ?_, fun x => ?_, hnodup⟩
  · rw [hsources, getElem_set_fin]
    split
    · exact hsrc
    · exact hsl x
  · rw [hmem, hsources, getElem_set_fin]
    split
    · rfl
    · exact hq x

/-- An occurrence keeps a record lawful (R122). -/
theorem sourceLaw_occurred (e : SrcIx) (value : BitVec 32) {src : Source} (h : SourceLaw src) :
    SourceLaw (src.occurred e value) := by
  obtain ⟨hcount, hidle, hqueued, hreported⟩ := h
  unfold Source.occurred
  split
  · exact ⟨hcount, hidle, hqueued, hreported⟩
  · rename_i henabled
    have hen : src.enabled = true := by simpa using henabled
    split
    · rename_i hst
      obtain ⟨-, hrep, -⟩ := hidle hst
      exact ⟨(by decide : (1 : Nat) ≤ 255), fun h => by simp at h, fun _ => ⟨Nat.one_pos, hrep, hen⟩,
        fun h => by simp at h⟩
    · rename_i hst
      obtain ⟨hpos, hrep, -⟩ := hqueued hst
      exact ⟨min_le_right _ _, fun h => by simp [hst] at h,
        fun _ => ⟨lt_min (Nat.succ_pos _) (by decide), hrep, hen⟩, fun h => by simp [hst] at h⟩
    · rename_i hst
      obtain ⟨hpos, hle, -, hmode⟩ := hreported hst
      exact ⟨min_le_right _ _, fun h => by simp [hst] at h, fun h => by simp [hst] at h,
        fun _ => ⟨hpos, le_min (hle.trans (Nat.le_succ _)) (hle.trans hcount), hen, hmode⟩⟩

/-- A source is QUEUED after an occurrence when it was before, or when it joins the queue (R122). -/
theorem occurred_queued_iff (e : SrcIx) (value : BitVec 32) (src : Source) :
    (src.occurred e value).state = .queued ↔ src.state = .queued ∨ src.joins = true := by
  unfold Source.occurred Source.joins
  cases hen : src.enabled <;> cases hst : src.state <;> simp [hst]

theorem eventLaw_occur (e : SrcIx) (value : BitVec 32) {s : State} (hs : EventLaw s) :
    EventLaw (occur e value s) := by
  obtain ⟨hsl, hq, hnodup⟩ := hs
  refine eventLaw_set ⟨hsl, hq, hnodup⟩ rfl (sourceLaw_occurred e value (hsl e)) (fun x => ?_) ?_
  · rw [occurred_queued_iff, occur_notices]
    by_cases hx : x = e
    · subst hx
      rw [if_pos rfl, ← hq x]
      split <;> simp_all
    · rw [if_neg hx]
      split <;> simp [hx]
  · rw [occur_notices]
    split
    · rename_i hjoin
      have hidle : s.sources[e.val].state = .idle := by
        simpa using (Bool.and_eq_true_iff.mp hjoin).2
      refine hnodup.append (List.nodup_singleton e) fun x hx hx' => ?_
      rw [List.mem_singleton.mp hx', hq e, hidle] at hx
      cases hx
    · exact hnodup

theorem eventLaw_lowerCount (i : WinIx) {s : State} (hs : EventLaw s) :
    EventLaw (lowerCount i s) := by
  unfold lowerCount
  split
  · exact eventLaw_occur _ _ hs
  · exact hs

theorem sourceLaw_resting (enabled : Bool) (mode : ClearMode) :
    SourceLaw (Source.resting enabled mode) :=
  ⟨Nat.zero_le _, fun _ => ⟨rfl, rfl, rfl⟩, fun h => (by cases h), fun h => (by cases h)⟩

theorem disableSource_source (e x : SrcIx) (mode : ClearMode) (s : State) :
    (disableSource e mode s).sources[x.val] =
      if x = e then Source.resting false mode else s.sources[x.val] :=
  getElem_set_fin _ _ _ _

theorem eventLaw_disableSource (e : SrcIx) (mode : ClearMode) {s : State} (hs : EventLaw s) :
    EventLaw (disableSource e mode s) := by
  refine eventLaw_set hs rfl (sourceLaw_resting false mode) (fun x => ?_) (hs.2.2.filter _)
  rw [disableSource_notices, List.mem_filter]
  by_cases hx : x = e <;> simp [hx, Source.resting]

theorem eventLaw_enableSource {e : SrcIx} (mode : ClearMode) {s : State} (hs : EventLaw s)
    (hidle : s.sources[e.val].state = .idle) : EventLaw (enableSource e mode s) := by
  refine eventLaw_set hs rfl (sourceLaw_resting true mode) (fun x => ?_) hs.2.2
  rw [enableSource_notices]
  by_cases hx : x = e
  · subst hx
    rw [if_pos rfl, hs.2.1 x, hidle]
    simp [Source.resting]
  · rw [if_neg hx]

/-- An acknowledgement keeps a REPORTED record lawful (R130). -/
theorem sourceLaw_acknowledged {src : Source} (h : SourceLaw src) (hst : src.state = .reported) :
    SourceLaw src.acknowledged := by
  obtain ⟨hcount, -, -, hreported⟩ := h
  obtain ⟨hpos, hle, hen, -⟩ := hreported hst
  unfold Source.acknowledged
  split
  · rename_i hlt
    exact ⟨(Nat.sub_le _ _).trans hcount, fun h => by simp at h,
      fun _ => ⟨Nat.sub_pos_of_lt hlt, rfl, hen⟩, fun h => by simp at h⟩
  · exact ⟨Nat.zero_le _, fun _ => ⟨rfl, rfl, rfl⟩, fun h => by simp at h, fun h => by simp at h⟩

theorem acknowledged_queued_iff (src : Source) :
    src.acknowledged.state = .queued ↔ src.reported < src.count := by
  unfold Source.acknowledged; split <;> simp_all

theorem eventLaw_acknowledge {e : SrcIx} {s : State} (hs : EventLaw s)
    (hst : s.sources[e.val].state = .reported) : EventLaw (acknowledge e s) := by
  obtain ⟨hsl, hq, hnodup⟩ := hs
  have hout : e ∉ s.notices := by rw [hq e, hst]; decide
  refine eventLaw_set ⟨hsl, hq, hnodup⟩ rfl (sourceLaw_acknowledged (hsl e) hst) (fun x => ?_) ?_
  · rw [acknowledged_queued_iff, acknowledge_notices]
    by_cases hx : x = e
    · subst hx
      rw [if_pos rfl]
      split <;> simp_all
    · rw [if_neg hx]
      split <;> simp [hx]
  · rw [acknowledge_notices]
    split
    · exact hnodup.append (List.nodup_singleton e) fun x hx hx' =>
        hout (List.mem_singleton.mp hx' ▸ hx)
    · exact hnodup

/-- A notice chosen puts its QUEUED source at rest or makes it REPORTED (R126, R127). -/
theorem sourceLaw_delivered {src : Source} (h : SourceLaw src) (hst : src.state = .queued) :
    SourceLaw src.delivered := by
  obtain ⟨hcount, -, hqueued, -⟩ := h
  obtain ⟨hpos, hrep, hen⟩ := hqueued hst
  unfold Source.delivered
  split
  · exact ⟨Nat.zero_le _, fun _ => ⟨rfl, hrep, rfl⟩, fun h => by simp at h, fun h => by simp at h⟩
  · rename_i hmode
    exact ⟨hcount, fun h => by simp at h, fun h => by simp at h, fun _ => ⟨hpos, le_rfl, hen, hmode⟩⟩

theorem delivered_not_queued (src : Source) : src.delivered.state ≠ .queued := by
  unfold Source.delivered; split <;> simp

theorem eventLaw_chooseNotice {e : SrcIx} {rest : List SrcIx} {s : State} (hs : EventLaw s)
    (hn : s.notices = e :: rest) : EventLaw (chooseNotice e rest s) := by
  obtain ⟨hsl, hq, hnodup⟩ := hs
  have hqueued : s.sources[e.val].state = .queued := (hq e).mp (by simp [hn])
  rw [hn, List.nodup_cons] at hnodup
  refine eventLaw_set ⟨hsl, hq, hn ▸ List.nodup_cons.mpr hnodup⟩ rfl
    (sourceLaw_delivered (hsl e) hqueued) (fun x => ?_) hnodup.2
  show x ∈ rest ↔ _
  by_cases hx : x = e
  · subst hx
    simp [hnodup.1, delivered_not_queued]
  · simp [hn, hx]

/-! ## READY_LINE targets -/

/-- A target's ready method is the profile's once it has been taken. -/
theorem readyMethodAt_taken (t x : Target) (p : Profile) (s : State) :
    readyMethodAt x (takeProfile t p s) = if x = t then p.readyMethod else readyMethodAt x s := by
  rw [takeProfile_frame, readyMethodAt]
  simp only [getElem_set_fin]
  split <;> rename_i h
  · split at h
    · cases h
    · rename_i hx; rw [if_neg hx, readyMethodAt, h]
  · split at h
    · rename_i hx; cases h; rw [if_pos hx]
    · rename_i hx; rw [if_neg hx, readyMethodAt, h]

/-- Where no ready method and no source's enabled flag rises, the law of R28 is kept. -/
theorem readyLineLaw_of {s t : State} (hs : ReadyLineLaw s)
    (hready : ∀ x : Target, readyMethodAt x t = readyMethodAt x s)
    (hsources : ∀ e : SrcIx, t.sources[e.val].enabled = true → s.sources[e.val].enabled = true) :
    ReadyLineLaw t := by
  intro x hx
  have := hs x ((hready x) ▸ hx)
  by_contra h
  simp [hsources _ (by simpa using h)] at this

theorem enabled_set {s : State} {e : SrcIx} {src : Source}
    (h : src.enabled = true → s.sources[e.val].enabled = true) (x : SrcIx)
    (hx : (s.sources.set e.val src)[x.val].enabled = true) : s.sources[x.val].enabled = true := by
  rw [getElem_set_fin] at hx
  split at hx
  · rename_i he; subst he; exact h hx
  · exact hx

theorem occurred_enabled (e : SrcIx) (value : BitVec 32) (src : Source) :
    (src.occurred e value).enabled = src.enabled := by
  unfold Source.occurred
  split
  · rfl
  · split <;> rfl

theorem readyLineLaw_occur (e : SrcIx) (value : BitVec 32) {s : State} (hs : ReadyLineLaw s) :
    ReadyLineLaw (occur e value s) :=
  readyLineLaw_of hs (fun _ => rfl) (enabled_set fun h => by rwa [occurred_enabled] at h)

theorem readyLineLaw_lowerCount (i : WinIx) {s : State} (hs : ReadyLineLaw s) :
    ReadyLineLaw (lowerCount i s) := by
  unfold lowerCount
  split
  · exact readyLineLaw_occur _ _ hs
  · exact hs

theorem readyLineLaw_disableSource (e : SrcIx) (mode : ClearMode) {s : State}
    (hs : ReadyLineLaw s) : ReadyLineLaw (disableSource e mode s) :=
  readyLineLaw_of hs (fun _ => rfl) (enabled_set fun h => by cases h)

/-- A source that may be enabled is none of a READY_LINE target (R132). -/
theorem readyLineLaw_enableSource {e : SrcIx} (mode : ClearMode) {s : State} (hs : ReadyLineLaw s)
    (hfree : attnOfReadyLine e s = false) : ReadyLineLaw (enableSource e mode s) := by
  intro x hx
  have hne : attnSource x ≠ e := by
    rintro rfl
    have hlt : (attnSource x).val < 8 := x.isLt
    have hrl : readyMethodAt x s = .readyLine := hx
    have : attnOfReadyLine (attnSource x) s = true := by
      rw [attnOfReadyLine, dif_pos hlt]
      exact beq_iff_eq.mpr hrl
    rw [hfree] at this
    cases this
  show (s.sources.set e.val _)[(attnSource x).val].enabled = false
  rw [getElem_set_fin, if_neg hne]
  exact hs x hx

theorem acknowledged_enabled (src : Source) : src.acknowledged.enabled = src.enabled := by
  unfold Source.acknowledged; split <;> rfl

theorem delivered_enabled (src : Source) : src.delivered.enabled = src.enabled := by
  unfold Source.delivered; split <;> rfl

/-- The source of a target whose profile is taken is disabled where it is a READY_LINE target. -/
theorem readyLineLaw_takeProfile (t : Target) (p : Profile) {s : State} (hs : ReadyLineLaw s) :
    ReadyLineLaw (takeProfile t p s) := by
  intro x hx
  rw [readyMethodAt_taken] at hx
  unfold takeProfile
  split at hx
  · rename_i hxt
    rw [if_pos hx, hxt]
    simp [disableKeepingMode, Source.resting]
  · have hdis := hs x hx
    split
    · rw [disableKeepingMode, disableSource_source]
      split
      · rfl
      · exact hdis
    · exact hdis

theorem eventLaw_takeProfile (t : Target) (p : Profile) {s : State} (hs : EventLaw s) :
    EventLaw (takeProfile t p s) := by
  unfold takeProfile
  split
  · exact eventLaw_disableSource _ _ hs
  · exact hs

/-! ## Every step -/

/-- Both laws of the event sources (R121, R124, R28). -/
def EventLaws (s : State) : Prop := EventLaw s ∧ ReadyLineLaw s

theorem eventLaws_lowerCount (i : WinIx) {s : State} (hs : EventLaws s) :
    EventLaws (lowerCount i s) :=
  ⟨eventLaw_lowerCount i hs.1, readyLineLaw_lowerCount i hs.2⟩

theorem eventLaws_linkResetSlot (tag : Tag) {s : State} (hs : EventLaws s) :
    EventLaws (linkResetSlot s tag) := by
  have hset (sl : Slot) : EventLaws (setSlot tag sl s) := hs
  unfold linkResetSlot
  split
  · exact eventLaws_lowerCount _ (hset _)
  · exact eventLaws_lowerCount _ (hset _)
  all_goals exact hs

theorem eventLaws_applyProfile (r : ImageRecord) {s : State} (hs : EventLaws s) :
    EventLaws (applyProfile s r) := by
  unfold applyProfile
  split
  · exact hs
  · exact ⟨eventLaw_takeProfile _ _ hs.1, readyLineLaw_takeProfile _ _ hs.2⟩

theorem eventLaws_imageTaken (img : List Byte) {s : State} (hs : EventLaws s) :
    EventLaws (imageTaken img s) := by
  have hprofiles := foldl_keeps (profileRecords img)
    (fun u r (hu : EventLaws u) => eventLaws_applyProfile r hu) s hs
  have hwindows := foldl_keeps (P := EventLaws) (f := applyWindow) (windowRecords img)
    (fun u r hu => by unfold applyWindow; split <;> exact hu) _ hprofiles
  refine foldl_keeps (P := EventLaws) (f := applyOpening) (windowRecords img)
    (fun u r hu => ?_) _ hwindows
  unfold applyOpening
  split
  · split <;> exact hu
  · exact hu

theorem Change.eventLaws {s t : State} (h : Change s t) (hs : EventLaws s) : EventLaws t := by
  cases h with
  | done => exact eventLaws_lowerCount _ hs
  | orphanFreed => exact eventLaws_lowerCount _ hs
  | occurrence => exact ⟨eventLaw_occur _ _ hs.1, readyLineLaw_occur _ _ hs.2⟩
  | profile => exact ⟨eventLaw_takeProfile _ _ hs.1, readyLineLaw_takeProfile _ _ hs.2⟩
  | disabled => exact ⟨eventLaw_disableSource _ _ hs.1, readyLineLaw_disableSource _ _ hs.2⟩
  | enabled idle free =>
    exact ⟨eventLaw_enableSource _ hs.1 idle, readyLineLaw_enableSource _ hs.2 free⟩
  | acknowledged was =>
    exact ⟨eventLaw_acknowledge hs.1 was, readyLineLaw_of hs.2 (fun _ => rfl)
      (enabled_set fun h => by rwa [acknowledged_enabled] at h)⟩
  | linkReset =>
    have hreset := linkResetSlots_keeps (fun tag _ => eventLaws_linkResetSlot tag) s hs
    rw [Machine.linkReset]
    generalize linkResetSlots s = u at hreset ⊢
    exact hreset
  | @image img =>
    have htaken := eventLaws_imageTaken img hs
    show EventLaws { imageTaken img s with
      loadOutcome := .loaded, failureCode := 0, loadPhase := none, loadBuffer := []
      bootRead := none, link := .closed, cache := none }
    generalize imageTaken img s = u at htaken ⊢
    exact htaken
  | _ => exact hs

theorem eventLaws_coldState (s : State) : EventLaws (coldState s) := by
  refine ⟨⟨fun e => ?_, fun e => ?_, List.nodup_nil⟩, fun n hn => ?_⟩
  · rw [coldState_source]
    split <;> exact sourceLaw_resting _ _
  · rw [coldState_source]
    have hnone : e ∉ (coldState s).notices := List.not_mem_nil
    split <;> simp [hnone, Source.resting]
  · rw [readyMethodAt, coldState_profile] at hn
    cases hn

theorem Move.eventLaws {s t : State} (h : Move s t) (hs : EventLaws s) : EventLaws t := by
  cases h with
  | change h => exact h.eventLaws hs
  | notice waits =>
    exact ⟨eventLaw_chooseNotice hs.1 waits, readyLineLaw_of hs.2 (fun _ => rfl)
      (enabled_set fun h => by rwa [delivered_enabled] at h)⟩
  | cold => exact eventLaws_coldState s
  | _ => exact hs

/-- Settles O56: each move keeps both laws. -/
theorem stepsKeepTheEventLaws : Obligations.StepsKeepTheEventLaws := by
  intro s t he hr hstep
  exact step_keeps (fun _ _ h => h.eventLaws) (fun _ _ _ h => h) hstep ⟨he, hr⟩

end Sys2Proof.Machine
end

section
/-! PROOFS. The laws of the slots: the target queues and the delivery queue agree with the slot states,
and each window counts its live slots. -/

namespace Sys2Proof.Machine

/-! ## Slots at a link reset -/

/-- A slot once the link has been reset (R70). -/
def Slot.afterLinkReset (sl : Slot) : Slot :=
  match sl.state with
  | .queued | .paused | .done => Slot.freed
  | .active => { sl with state := .orphaned }
  | .orphaned | .free => sl

theorem afterLinkReset_state (sl : Slot) :
    sl.afterLinkReset.state = .free ∨ sl.afterLinkReset.state = .orphaned := by
  unfold Slot.afterLinkReset
  split <;> simp_all [Slot.freed]

theorem linkResetSlot_slots (s : State) (tag : Tag) :
    (linkResetSlot s tag).slots = s.slots.set tag.val s.slots[tag.val].afterLinkReset := by
  unfold linkResetSlot Slot.afterLinkReset
  split <;> rename_i h <;> simp only [h] <;> simp [lowerCount_eq]

theorem linkResetSlot_slot (s : State) (tag x : Tag) :
    (linkResetSlot s tag).slots[x.val] =
      if x = tag then s.slots[x.val].afterLinkReset else s.slots[x.val] := by
  simp only [linkResetSlot_slots, getElem_set_fin]
  split
  · rename_i h; rw [h]
  · rfl

/-- Each slot is reset once (R70). -/
theorem foldl_linkResetSlot_slot (tags : List Tag) (h : tags.Nodup) (s : State) (x : Tag) :
    (tags.foldl linkResetSlot s).slots[x.val] =
      if x ∈ tags then s.slots[x.val].afterLinkReset else s.slots[x.val] := by
  induction tags generalizing s with
  | nil => simp
  | cons a as ih =>
    obtain ⟨hout, hnodup⟩ := List.nodup_cons.mp h
    rw [List.foldl_cons, ih hnodup, linkResetSlot_slot]
    by_cases hx : x = a
    · subst hx; simp [hout]
    · simp [hx]

theorem linkResetSlots_slot (s : State) (x : Tag) :
    (linkResetSlots s).slots[x.val] = s.slots[x.val].afterLinkReset := by
  have hmem : x ∈ allTags := List.mem_finRange x
  rw [linkResetSlots, foldl_linkResetSlot_slot allTags (List.nodup_finRange 32) s x, if_pos hmem]

theorem linkReset_slot (s : State) (x : Tag) :
    (linkReset s).slots[x.val] = s.slots[x.val].afterLinkReset := by
  have hslot := linkResetSlots_slot s x
  unfold linkReset
  generalize linkResetSlots s = u at hslot ⊢
  exact hslot

/-! ## A submitted slot -/

theorem submitSlot_state (payload : List Byte) (i : WinIx) (w : Window) (pageCode : Nat) :
    (submitSlot payload i w pageCode).state = .queued ∧
      (submitSlot payload i w pageCode).target = w.target ∧
      (submitSlot payload i w pageCode).window = i := by
  unfold submitSlot
  dsimp only
  split <;> exact ⟨rfl, rfl, rfl⟩

/-! ## The target queues -/

/-- The queues agree with the slots, and only a head is ACTIVE or PAUSED (R49, R73, R74). -/
def QueueLaws (s : State) : Prop := QueueLaw s ∧ HeadLaw s

theorem mem_queue {s : State} (hs : QueueLaw s) {t : Target} {tag : Tag} :
    tag ∈ s.queues[t.val] ↔ s.slots[tag.val].inQueue ∧ s.slots[tag.val].target = t :=
  hs.1 t tag

/-- A slot that stands in a queue is rewritten on its place there. -/
theorem queueLaws_setSlot {s : State} {tag : Tag} {sl : Slot} (hs : QueueLaws s)
    (stood : s.slots[tag.val].inQueue) (stands : sl.inQueue)
    (target : sl.target = s.slots[tag.val].target)
    (head : sl.state = .queued ∨ s.slots[tag.val].state ≠ .queued ∨
      ∃ (t : Target) (rest : List Tag), s.queues[t.val] = tag :: rest) :
    QueueLaws (setSlot tag sl s) := by
  obtain ⟨hq, hh⟩ := hs
  refine ⟨⟨fun t x => ?_, hq.2⟩, fun t h x behind hqueue hx => ?_⟩
  · show x ∈ s.queues[t.val] ↔ ((s.slots.set tag.val sl)[x.val]).inQueue ∧ _
    rw [setSlot_slots, getElem_set_fin, mem_queue hq]
    split
    · rename_i he; subst he; simp [stood, stands, target]
    · rfl
  · have hqueued := hh t h x behind hqueue hx
    rw [setSlot_slots, getElem_set_fin]
    split
    · rename_i he
      subst he
      rcases head with hsl | hwas | ⟨t', rest, hhead⟩
      · exact hsl
      · exact absurd hqueued hwas
      · have htarget : t' = t := by
          have h1 := (mem_queue hq (t := t')).mp (by rw [hhead]; exact List.mem_cons_self)
          have h2 := (mem_queue hq (t := t)).mp
            (by rw [show s.queues[t.val] = _ from hqueue]; exact List.mem_cons_of_mem _ hx)
          rw [← h1.2, h2.2]
        subst htarget
        have hsame : x :: rest = h :: behind := hhead.symm.trans hqueue
        have hnodup := hq.2 t'
        rw [hhead, List.nodup_cons] at hnodup
        rw [← List.tail_eq_of_cons_eq hsame] at hx
        exact absurd hx hnodup.1
    · exact hqueued

/-- A slot that stands in no queue is rewritten without entering one. -/
theorem queueLaws_setOut {s t : State} {tag : Tag} {sl : Slot} (hs : QueueLaws s)
    (hslots : t.slots = s.slots.set tag.val sl) (hqueues : t.queues = s.queues)
    (stood : ¬ s.slots[tag.val].inQueue) (stands : ¬ sl.inQueue) : QueueLaws t := by
  obtain ⟨hq, hh⟩ := hs
  refine ⟨⟨fun n x => ?_, fun n => ?_⟩, fun n h x behind hqueue hx => ?_⟩
  · simp only [hslots, hqueues, getElem_set_fin]
    rw [mem_queue hq]
    split
    · rename_i he; subst he; simp [stood, stands]
    · rfl
  · simp only [hqueues]; exact hq.2 n
  · simp only [hqueues] at hqueue
    simp only [hslots, getElem_set_fin]
    split
    · rename_i he
      subst he
      exact absurd ((mem_queue hq).mp (by rw [hqueue]; exact List.mem_cons_of_mem _ hx)).1 stood
    · exact hh n h x behind hqueue hx

/-- Behind the head of a filtered list stands what stood behind a head. -/
theorem mem_behind_filter {α : Type} {p : α → Bool} {xs behind : List α} {h x : α}
    (hf : xs.filter p = h :: behind) (hx : x ∈ behind) :
    p x = true ∧ ∃ (g : α) (rest : List α), xs = g :: rest ∧ x ∈ rest := by
  have hp : p x = true := by
    have : x ∈ xs.filter p := hf ▸ List.mem_cons_of_mem h hx
    exact (List.mem_filter.mp this).2
  cases xs with
  | nil => cases hf
  | cons g rest =>
    refine ⟨hp, g, rest, rfl, ?_⟩
    by_cases hg : p g = true
    · rw [List.filter_cons_of_pos hg] at hf
      rw [← List.tail_eq_of_cons_eq hf] at hx
      exact (List.mem_filter.mp hx).1
    · rw [List.filter_cons_of_neg hg] at hf
      have : x ∈ rest.filter p := hf ▸ List.mem_cons_of_mem h hx
      exact (List.mem_filter.mp this).1

theorem Slot.finished_not_inQueue (sl : Slot) (status : CompStatus) (hold : Nat) :
    ¬ (sl.finished status hold).inQueue := by
  simp [Slot.inQueue, Slot.finished]

/-- A slot that ends leaves its queue (R64). -/
theorem queueLaws_enterDone {s : State} {tag : Tag} (status : CompStatus) (hs : QueueLaws s) :
    QueueLaws (enterDone tag status s) := by
  obtain ⟨hq, hh⟩ := hs
  rw [enterDone_eq, lowerCount_eq]
  have hqueue : ∀ t : Target, (s.queues.set (s.slots[tag.val].target).val
      (s.queues[(s.slots[tag.val].target).val].filter (· != tag)))[t.val] =
        s.queues[t.val].filter (· != tag) := by
    intro t
    rw [getElem_set_fin]
    split
    · rename_i he; rw [he]
    · rename_i hne
      refine (List.filter_eq_self.mpr fun x hx => ?_).symm
      rw [bne_iff_ne]
      rintro rfl
      exact hne ((mem_queue hq).mp hx).2.symm
  refine ⟨⟨fun t x => ?_, fun t => ?_⟩, fun t h x behind hbehind hx => ?_⟩
  · simp only [hqueue, getElem_set_fin, List.mem_filter, bne_iff_ne]
    rw [mem_queue hq]
    split
    · rename_i he; subst he; simp [Slot.finished_not_inQueue]
    · rename_i hne; simp [hne]
  · simp only [hqueue]; exact (hq.2 t).filter _
  · simp only [hqueue] at hbehind
    obtain ⟨hne, g, rest, hxs, hrest⟩ := mem_behind_filter hbehind hx
    simp only [getElem_set_fin]
    rw [if_neg (by simpa using hne)]
    exact hh t g x rest hxs hrest

/-- An accepted slot joins the end of its target's queue (R54). -/
theorem queueLaws_acceptSubmit {s : State} {payload : List Byte} {tag : Tag} {i : WinIx}
    (hs : QueueLaws s) (free : s.slots[tag.val].state = .free) :
    QueueLaws (acceptSubmit payload tag i s) := by
  obtain ⟨hq, hh⟩ := hs
  have hout : ¬ s.slots[tag.val].inQueue := by simp [Slot.inQueue, free]
  obtain ⟨hstate, htarget, -⟩ := submitSlot_state payload i s.windows[i.val]
    (pageCodeAt s.windows[i.val].target s)
  have hslot : ∀ x : Tag, (acceptSubmit payload tag i s).slots[x.val] =
      if x = tag then submitSlot payload i s.windows[i.val] (pageCodeAt s.windows[i.val].target s)
      else s.slots[x.val] := fun x => getElem_set_fin _ _ _ _
  have hqueue : ∀ t : Target, (acceptSubmit payload tag i s).queues[t.val] =
      if t = s.windows[i.val].target then s.queues[t.val] ++ [tag] else s.queues[t.val] := by
    intro t
    refine (getElem_set_fin _ _ _ _).trans ?_
    split
    · rename_i he; rw [he]
    · rfl
  have hnot : ∀ t : Target, tag ∉ s.queues[t.val] := fun t h => hout ((mem_queue hq).mp h).1
  refine ⟨⟨fun t x => ?_, fun t => ?_⟩, fun t h x behind hbehind hx => ?_⟩
  · rw [hqueue, hslot]
    by_cases hx : x = tag
    · subst hx
      rw [if_pos rfl, htarget]
      have hin := Slot.inQueue_queued hstate
      split
      · rename_i he; simp [hin, he]
      · rename_i he; simp [hin, hnot t, Ne.symm he]
    · rw [if_neg hx, ← mem_queue hq]
      split <;> simp [hx]
  · rw [hqueue]
    split
    · exact (hq.2 t).append (List.nodup_singleton tag) fun x hx hx' =>
        hnot t (List.mem_singleton.mp hx' ▸ hx)
    · exact hq.2 t
  · rw [hslot]
    split
    · exact hstate
    · rename_i hne
      rw [hqueue] at hbehind
      split at hbehind
      · cases hold : s.queues[t.val] with
        | nil =>
          rw [hold] at hbehind
          cases hbehind
          cases hx
        | cons g rest =>
          rw [hold] at hbehind
          have htail := List.tail_eq_of_cons_eq hbehind
          rw [← htail] at hx
          rcases List.mem_append.mp hx with hx | hx
          · exact hh t g x rest hold hx
          · exact absurd (List.mem_singleton.mp hx) hne
      · exact hh t h x behind hbehind hx

theorem queueLaws_empty {t : State} (hslots : ∀ x : Tag, ¬ t.slots[x.val].inQueue)
    (hqueues : ∀ n : Target, t.queues[n.val] = []) : QueueLaws t := by
  refine ⟨⟨fun n x => ?_, fun n => ?_⟩, fun n h x behind hb => ?_⟩
  · rw [hqueues]; simp [hslots x]
  · rw [hqueues]; exact List.nodup_nil
  · rw [hqueues] at hb; cases hb

theorem Slot.freed_not_inQueue : ¬ Slot.freed.inQueue := by simp [Slot.inQueue, Slot.freed]

theorem Slot.not_inQueue_done {sl : Slot} (h : sl.state = .done) : ¬ sl.inQueue := by
  simp [Slot.inQueue, h]

theorem queueLaws_linkReset (s : State) : QueueLaws (linkReset s) := by
  refine queueLaws_empty (fun x => ?_) fun n => Vector.getElem_replicate n.isLt
  rw [linkReset_slot]
  rcases afterLinkReset_state s.slots[x.val] with h | h <;> simp [Slot.inQueue, h]

theorem Change.queueLaws {s t : State} (h : Change s t) (hs : QueueLaws s) : QueueLaws t := by
  cases h with
  | slot stood stands target window progress head =>
    exact queueLaws_setSlot hs stood stands target head
  | done => exact queueLaws_enterDone _ hs
  | @orphanFreed tag orphan =>
    rw [freeOrphan, lowerCount_eq]
    exact queueLaws_setOut hs (tag := tag) rfl rfl (by simp [Slot.inQueue, orphan])
      Slot.freed_not_inQueue
  | @taken tag done =>
    exact queueLaws_setOut hs (tag := tag) rfl rfl (Slot.not_inQueue_done done)
      Slot.freed_not_inQueue
  | @discarded tag done =>
    exact queueLaws_setOut hs (tag := tag) rfl rfl (Slot.not_inQueue_done done)
      Slot.freed_not_inQueue
  | accepted free => exact queueLaws_acceptSubmit hs free
  | profile => rw [takeProfile_frame]; exact hs
  | linkReset => exact queueLaws_linkReset s
  | image => rw [applyImage_frame]; exact hs
  | _ => exact hs

/-! ## The delivery queue -/

/-- A slot is rewritten that neither was nor is DONE. -/
theorem deliveryLaw_set {s t : State} {tag : Tag} {sl : Slot} (hs : DeliveryLaw s)
    (hslots : t.slots = s.slots.set tag.val sl) (hdelivery : t.delivery = s.delivery)
    (was : s.slots[tag.val].state ≠ .done) (is : sl.state ≠ .done) : DeliveryLaw t := by
  refine ⟨fun x => ?_, hdelivery ▸ hs.2⟩
  simp only [hslots, hdelivery, getElem_set_fin, hs.1 x]
  split
  · rename_i he; subst he; simp [was, is]
  · rfl

theorem Slot.inQueue_not_done {sl : Slot} (h : sl.inQueue) : sl.state ≠ .done := by
  rcases h with h | h | h <;> simp [h]

/-- A slot that ends joins the end of the delivery queue (R64). -/
theorem deliveryLaw_enterDone {s : State} {tag : Tag} (status : CompStatus) (hs : DeliveryLaw s)
    (was : s.slots[tag.val].state ≠ .done) : DeliveryLaw (enterDone tag status s) := by
  have hout : tag ∉ s.delivery := fun h => was ((hs.1 tag).mp h)
  rw [enterDone_eq, lowerCount_eq]
  refine ⟨fun x => ?_, ?_⟩
  · simp only [getElem_set_fin, List.mem_append, List.mem_singleton, hs.1 x]
    split
    · rename_i he; simp [he, Slot.finished]
    · rename_i he; simp [he]
  · exact hs.2.append (List.nodup_singleton tag) fun x hx hx' =>
      hout (List.mem_singleton.mp hx' ▸ hx)

/-- A result taken leaves the delivery queue (R99, R101, R104). -/
theorem deliveryLaw_freeDone {s : State} (tag : Tag) (hs : DeliveryLaw s) :
    DeliveryLaw (freeDone tag s) := by
  refine ⟨fun x => ?_, hs.2.filter _⟩
  simp only [freeDone_slots, freeDone_delivery, getElem_set_fin, List.mem_filter, hs.1 x,
    bne_iff_ne]
  split
  · rename_i he; simp [he, Slot.freed]
  · rename_i he; simp [he]

theorem deliveryLaw_linkReset (s : State) : DeliveryLaw (linkReset s) := by
  refine ⟨fun x => ?_, List.nodup_nil⟩
  rw [linkReset_slot]
  have hout : x ∉ (linkReset s).delivery := List.not_mem_nil
  rcases afterLinkReset_state s.slots[x.val] with h | h <;> simp [h, hout]

theorem Change.deliveryLaw {s t : State} (h : Change s t) (hs : DeliveryLaw s) :
    DeliveryLaw t := by
  cases h with
  | @slot tag sl stood stands =>
    exact deliveryLaw_set hs (tag := tag) rfl rfl (Slot.inQueue_not_done stood)
      (Slot.inQueue_not_done stands)
  | done stood => exact deliveryLaw_enterDone _ hs (Slot.inQueue_not_done stood)
  | @orphanFreed tag orphan =>
    rw [freeOrphan, lowerCount_eq]
    exact deliveryLaw_set hs (tag := tag) rfl rfl (by simp [orphan]) (by simp [Slot.freed])
  | taken => exact deliveryLaw_freeDone _ hs
  | discarded => exact deliveryLaw_freeDone _ hs
  | @accepted payload tag i free =>
    refine deliveryLaw_set hs (tag := tag) rfl rfl (by simp [free]) ?_
    rw [(submitSlot_state payload i _ _).1]
    decide
  | profile => rw [takeProfile_frame]; exact hs
  | linkReset => exact deliveryLaw_linkReset s
  | image => rw [applyImage_frame]; exact hs
  | _ => exact hs

theorem deliveryLaw_coldState (s : State) : DeliveryLaw (coldState s) := by
  refine ⟨fun x => ?_, List.nodup_nil⟩
  rw [coldState_slot]
  have hout : x ∉ (coldState s).delivery := List.not_mem_nil
  simp [hout, Slot.freed]

theorem queueLaws_coldState (s : State) : QueueLaws (coldState s) :=
  queueLaws_empty (fun x => by rw [coldState_slot]; exact Slot.freed_not_inQueue) (coldState_queue s)

/-- A push takes the slot of a DONE tag (R96, R99). -/
theorem queueLaws_choosePush {s : State} {tag : Tag} (hq : QueueLaws s) (hd : DeliveryLaw s)
    (waits : tag ∈ s.delivery) : QueueLaws (choosePush tag s) :=
  queueLaws_setOut hq (tag := tag) rfl rfl (Slot.not_inQueue_done ((hd.1 tag).mp waits))
    Slot.freed_not_inQueue

theorem Move.queues {s t : State} (h : Move s t) (hs : QueueLaws s ∧ DeliveryLaw s) :
    QueueLaws t ∧ DeliveryLaw t := by
  obtain ⟨hq, hd⟩ := hs
  cases h with
  | change h => exact ⟨h.queueLaws hq, h.deliveryLaw hd⟩
  | push waits => exact ⟨queueLaws_choosePush hq hd waits, deliveryLaw_freeDone _ hd⟩
  | cold => exact ⟨queueLaws_coldState s, deliveryLaw_coldState s⟩
  | _ => exact ⟨hq, hd⟩

/-- Settles O59: each move keeps the queues; a push needs its tag DONE. -/
theorem stepsKeepTheQueues : Obligations.StepsKeepTheQueues := by
  intro s t hq hh hd hstep
  obtain ⟨⟨hq', hh'⟩, hd'⟩ :=
    step_keeps (P := fun u => QueueLaws u ∧ DeliveryLaw u) (fun _ _ h => h.queues)
      (fun _ _ _ h => h) hstep ⟨⟨hq, hh⟩, hd⟩
  exact ⟨hq', hh', hd'⟩

end Sys2Proof.Machine
end

section
/-! PROOFS. A good image: what its validation says of its records, and what they leave in the tables. -/

namespace Sys2Proof.Machine

/-! ## What the validation says -/

/-- The index byte of a record. -/
def ImageRecord.index (r : ImageRecord) : Byte := byteAt r.bytes 0

/-- A good image fails none of the six checks (R181). -/
theorem imageFailure_none {img : List Byte} :
    imageFailure img = none ↔ checksumFailure img = none ∧ recordBadAt img = none ∧
      duplicateAt img = none ∧ referenceAt img = none ∧ overlapAt img = none ∧
      fitAt img = none := by
  simp only [imageFailure, Option.or_eq_none_iff, Option.map_eq_none_iff, and_assoc]

theorem recordBadAt_none {img : List Byte} :
    recordBadAt img = none ↔ (∀ r ∈ profileRecords img, profileBadAt r.bytes = none) ∧
      ∀ r ∈ windowRecords img, windowBadAt r.bytes = none := by
  simp only [recordBadAt, Option.or_eq_none_iff, List.findSome?_eq_none_iff,
    Option.map_eq_none_iff]

/-- No record repeats an index seen before or earlier in the list. -/
theorem firstRepeat_none {seen : List Byte} {rs : List ImageRecord} :
    firstRepeat seen rs = none ↔
      (∀ r ∈ rs, r.index ∉ seen) ∧ (rs.map ImageRecord.index).Nodup := by
  induction rs generalizing seen with
  | nil => simp [firstRepeat]
  | cons r rest ih =>
    unfold firstRepeat
    split
    · rename_i hseen
      have hin : r.index ∈ seen := by simpa [ImageRecord.index] using hseen
      simp [hin]
    · rename_i hseen
      have hout : r.index ∉ seen := by simpa [ImageRecord.index] using hseen
      rw [ih]
      have hix : byteAt r.bytes 0 = r.index := rfl
      simp only [List.mem_cons, not_or, List.map_cons, List.nodup_cons, List.mem_map,
        forall_eq_or_imp, hix]
      constructor
      · rintro ⟨hrest, hnodup⟩
        exact ⟨⟨hout, fun x hx => (hrest x hx).2⟩,
          fun ⟨x, hx, he⟩ => (hrest x hx).1 he, hnodup⟩
      · rintro ⟨⟨-, hrest⟩, hne, hnodup⟩
        exact ⟨fun x hx => ⟨fun he => hne ⟨x, hx, he⟩, hrest x hx⟩, hnodup⟩

theorem duplicateAt_none {img : List Byte} :
    duplicateAt img = none ↔ ((profileRecords img).map ImageRecord.index).Nodup ∧
      ((windowRecords img).map ImageRecord.index).Nodup := by
  simp [duplicateAt, Option.or_eq_none_iff, firstRepeat_none]

theorem referenceAt_none {img : List Byte} :
    referenceAt img = none ↔ ∀ r ∈ windowRecords img,
      ∃ q ∈ profileRecords img, q.index = byteAt r.bytes 3 := by
  simp only [referenceAt, Option.map_eq_none_iff, List.find?_eq_none, profileRecordFor,
    Option.isNone_iff_eq_none, not_forall, beq_iff_eq, not_not, ImageRecord.index, exists_prop]

/-- Two ranges meet in either order (R8). -/
theorem rangesMeet_comm (b l b' l' : Addr) : rangesMeet b l b' l' = rangesMeet b' l' b l :=
  Bool.and_comm _ _

/-- Two records' ranges share a bridge address (R8). -/
def ImageRecord.meets (r q : ImageRecord) : Bool :=
  rangesMeet (recBase r.bytes) (recLimit r.bytes) (recBase q.bytes) (recLimit q.bytes)

theorem ImageRecord.meets_comm (r q : ImageRecord) : r.meets q = q.meets r :=
  rangesMeet_comm _ _ _ _

/-- No record overlaps one before it. -/
theorem firstOverlap_none {earlier rs : List ImageRecord} :
    firstOverlap earlier rs = none ↔
      (∀ r ∈ rs, ∀ e ∈ earlier, r.meets e = false) ∧
        rs.Pairwise fun e r => r.meets e = false := by
  induction rs generalizing earlier with
  | nil => simp [firstOverlap]
  | cons r rest ih =>
    have hmeets : ∀ e : ImageRecord, rangesMeet (recBase r.bytes) (recLimit r.bytes)
        (recBase e.bytes) (recLimit e.bytes) = r.meets e := fun _ => rfl
    unfold firstOverlap
    simp only [hmeets]
    split
    · rename_i hany
      obtain ⟨e, he, hm⟩ := List.any_eq_true.mp hany
      simp only [reduceCtorEq, List.mem_cons, forall_eq_or_imp, false_iff, not_and]
      exact fun h => absurd (h.1 e he) (by simp [hm])
    · rename_i hany
      have hnone : ∀ e ∈ earlier, r.meets e = false := by
        intro e he
        by_contra hm
        exact hany (List.any_eq_true.mpr ⟨e, he, by simpa using hm⟩)
      rw [ih]
      simp only [List.mem_cons, forall_eq_or_imp, List.pairwise_cons]
      constructor
      · rintro ⟨hrest, hpair⟩
        exact ⟨⟨hnone, fun q hq => (hrest q hq).2⟩, fun q hq => (hrest q hq).1, hpair⟩
      · rintro ⟨⟨-, hrest⟩, hr, hpair⟩
        exact ⟨fun q hq => ⟨hr q hq, hrest q hq⟩, hpair⟩

theorem overlapAt_none {img : List Byte} :
    overlapAt img = none ↔
      ((windowRecords img).filter fun r => recOpens r.bytes).Pairwise
        fun e r => r.meets e = false := by
  rw [overlapAt, firstOverlap_none]
  simp

/-- Two opening records of a good image with different indices do not overlap (R181). -/
theorem records_apart {img : List Byte} (h : overlapAt img = none) {r q : ImageRecord}
    (hr : r ∈ windowRecords img) (hq : q ∈ windowRecords img) (hro : recOpens r.bytes = true)
    (hqo : recOpens q.bytes = true) (hne : r ≠ q) : r.meets q = false := by
  have hsymm : Std.Symm fun e r : ImageRecord => r.meets e = false :=
    ⟨fun e r h => by rw [ImageRecord.meets_comm]; exact h⟩
  exact (overlapAt_none.mp h).forall (List.mem_filter.mpr ⟨hq, hqo⟩) (List.mem_filter.mpr ⟨hr, hro⟩)
    hne.symm

/-- An index byte below `n` names its index, and another byte another one. -/
theorem indexOf_eq_some_iff {n : Nat} (h : n ≤ 256) {b : Byte} {i : Fin n} :
    indexOf? n b = some i ↔ b = byteOf i.val :=
  ⟨indexOf_some, fun he => by rw [he, indexOf_byteOf h]⟩

theorem indexOf_lt {n : Nat} {b : Byte} (h : b.toNat < n) : ∃ i, indexOf? n b = some i :=
  ⟨_, dif_pos h⟩

/-- A profile record in its ranges names a target (R182). -/
theorem profileBadAt_none_index {r : List Byte} (h : profileBadAt r = none) :
    (byteAt r 0).toNat < 8 := by
  have := List.find?_eq_none.mp h 0 (by decide)
  simpa [profileByteOk] using this

/-- A window record in its ranges names a window and a target (R182). -/
theorem windowBadAt_none_index {r : List Byte} (h : windowBadAt r = none) :
    (byteAt r 0).toNat < 16 ∧ (byteAt r 3).toNat < 8 := by
  unfold windowBadAt at h
  split_ifs at h with h0 h1 h2 h3
  all_goals exact ⟨Nat.not_le.mp h0, Nat.not_le.mp h3⟩

/-! ## Records taken one after another -/

section Fold
variable {α : Type} {f : State → ImageRecord → State} {g : State → α}
  {F : ImageRecord → α → α} {b : Byte}

/-- An entry that no record names keeps what it held. -/
theorem foldl_records_none (h : ∀ s r, g (f s r) = if r.index = b then F r (g s) else g s)
    (rs : List ImageRecord) (s : State) (hout : ∀ r ∈ rs, r.index ≠ b) :
    g (rs.foldl f s) = g s := by
  induction rs generalizing s with
  | nil => rfl
  | cons r rest ih =>
    rw [List.foldl_cons, ih _ fun q hq => hout q (List.mem_cons_of_mem _ hq), h,
      if_neg (hout r List.mem_cons_self)]

/-- An entry that one record names takes what that record says. -/
theorem foldl_records_one (h : ∀ s r, g (f s r) = if r.index = b then F r (g s) else g s)
    {rs : List ImageRecord} (hnodup : (rs.map ImageRecord.index).Nodup) (s : State)
    {r : ImageRecord} (hr : r ∈ rs) (hb : r.index = b) : g (rs.foldl f s) = F r (g s) := by
  induction rs generalizing s with
  | nil => cases hr
  | cons q rest ih =>
    obtain ⟨hq, hrest⟩ := List.nodup_cons.mp hnodup
    rw [List.foldl_cons]
    rcases List.mem_cons.mp hr with rfl | hr
    · rw [foldl_records_none h rest _ fun x hx he =>
        hq (List.mem_map.mpr ⟨x, hx, he.trans hb.symm⟩), h, if_pos hb]
    · have hne : q.index ≠ b := fun he =>
        hq (List.mem_map.mpr ⟨r, hr, hb.trans he.symm⟩)
      rw [ih hrest _ hr, h, if_neg hne]

end Fold

/-! ## One record -/

theorem applyProfile_windows (s : State) (r : ImageRecord) :
    (applyProfile s r).windows = s.windows := by
  rw [applyProfile]
  split
  · rfl
  · rw [takeProfile_frame]

theorem applyProfile_rdy (s : State) (r : ImageRecord) : (applyProfile s r).rdy = s.rdy := by
  rw [applyProfile]
  split
  · rfl
  · rw [takeProfile_frame]

theorem index_of_some {n : Nat} (hn : n ≤ 256) {r : ImageRecord} {j i : Fin n}
    (h : indexOf? n (byteAt r.bytes 0) = some j) : r.index = byteOf i.val ↔ i = j := by
  rw [ImageRecord.index, (indexOf_eq_some_iff hn).mp h]
  refine ⟨fun he => ?_, fun he => by rw [he]⟩
  have hto : (byteOf j.val).toNat = (byteOf i.val).toNat := by rw [he]
  rw [byteOf_toNat _ (by omega), byteOf_toNat _ (by omega)] at hto
  exact Fin.ext hto.symm

theorem index_of_none {n : Nat} (hn : n ≤ 256) {r : ImageRecord} {i : Fin n}
    (h : indexOf? n (byteAt r.bytes 0) = none) : r.index ≠ byteOf i.val := by
  intro he
  rw [ImageRecord.index] at he
  rw [he, indexOf_byteOf hn] at h
  cases h

/-- A profile record defines the profile of its target, and no other (R185). -/
theorem applyProfile_profile (n : Target) (s : State) (r : ImageRecord) :
    (applyProfile s r).profiles[n.val] =
      if r.index = byteOf n.val then some (profileOf r.bytes) else s.profiles[n.val] := by
  unfold applyProfile
  cases h : indexOf? 8 (byteAt r.bytes 0) with
  | none => rw [if_neg (index_of_none (by decide) h)]
  | some t =>
    rw [if_congr (index_of_some (by decide) h) rfl rfl]
    dsimp only
    rw [takeProfile_frame]
    exact getElem_set_fin _ _ _ _

/-- A profile record starts the filter of its target afresh, and no other (R46, R185). -/
theorem applyProfile_filter (n : Target) (s : State) (r : ImageRecord) :
    (applyProfile s r).filters[n.val] =
      if r.index = byteOf n.val then freshFilter s.rdy[n.val] else s.filters[n.val] := by
  unfold applyProfile
  cases h : indexOf? 8 (byteAt r.bytes 0) with
  | none => rw [if_neg (index_of_none (by decide) h)]
  | some t =>
    rw [if_congr (index_of_some (by decide) h) rfl rfl]
    dsimp only
    rw [takeProfile_frame]
    simp only [getElem_set_fin]
    split
    · rename_i he; rw [he]
    · rfl

/-- What a window record makes of its window (R185 step 2). -/
def ImageRecord.defines (r : ImageRecord) (w : Window) : Window :=
  match indexOf? 8 (byteAt r.bytes 3) with
  | some t => windowOfRecord t r.bytes
  | none => w

/-- What the load-state of a window record makes of its window (R185 step 3). -/
def ImageRecord.opens (r : ImageRecord) (w : Window) : Window :=
  if recOpens r.bytes then { w with state := .opened, outstanding := 0 } else w

theorem applyWindow_window (i : WinIx) (s : State) (r : ImageRecord) :
    (applyWindow s r).windows[i.val] =
      if r.index = byteOf i.val then r.defines s.windows[i.val] else s.windows[i.val] := by
  unfold applyWindow ImageRecord.defines
  cases h : indexOf? 16 (byteAt r.bytes 0) with
  | none => rw [if_neg (index_of_none (by decide) h)]
  | some j =>
    rw [if_congr (index_of_some (by decide) h) rfl rfl]
    cases h3 : indexOf? 8 (byteAt r.bytes 3) with
    | none => simp
    | some t => exact getElem_set_fin _ _ _ _

theorem applyOpening_window (i : WinIx) (s : State) (r : ImageRecord) :
    (applyOpening s r).windows[i.val] =
      if r.index = byteOf i.val then r.opens s.windows[i.val] else s.windows[i.val] := by
  unfold applyOpening ImageRecord.opens
  cases h : indexOf? 16 (byteAt r.bytes 0) with
  | none => rw [if_neg (index_of_none (by decide) h)]
  | some j =>
    rw [if_congr (index_of_some (by decide) h) rfl rfl]
    dsimp only
    split
    · simp only [setWindow_windows, getElem_set_fin]
      split
      · rename_i he; rw [he]
      · rfl
    · simp

/-! ## The image taken -/

section Taken
variable {img : List Byte} (s : State)

/-- The window records leave all else as the profile records left it (R185). -/
theorem imageTaken_after_profiles :
    imageTaken img s = { (profileRecords img).foldl applyProfile s with
      windows := (imageTaken img s).windows } := by
  have hwindow : ∀ u v : State, v = { u with windows := v.windows } → ∀ r : ImageRecord,
      applyWindow v r = { u with windows := (applyWindow v r).windows } := by
    intro u v hv r
    unfold applyWindow
    split
    · rw [hv]; rfl
    · exact hv
  have hopening : ∀ u v : State, v = { u with windows := v.windows } → ∀ r : ImageRecord,
      applyOpening v r = { u with windows := (applyOpening v r).windows } := by
    intro u v hv r
    unfold applyOpening
    split
    · split
      · rw [hv]; rfl
      · exact hv
    · exact hv
  generalize hu : (profileRecords img).foldl applyProfile s = u
  rw [imageTaken, hu]
  exact foldl_keeps (P := fun v => v = { u with windows := v.windows }) (windowRecords img)
    (fun v r hv => hopening u v hv r) _
    (foldl_keeps (P := fun v => v = { u with windows := v.windows }) (windowRecords img)
      (fun v r hv => hwindow u v hv r) u rfl)

theorem imageTaken_profiles :
    (imageTaken img s).profiles = ((profileRecords img).foldl applyProfile s).profiles := by
  rw [imageTaken_after_profiles]

theorem imageTaken_filters :
    (imageTaken img s).filters = ((profileRecords img).foldl applyProfile s).filters := by
  rw [imageTaken_after_profiles]

/-- A window that no record names keeps what it held (R185). -/
theorem imageTaken_window_none {i : WinIx}
    (h : ∀ r ∈ windowRecords img, r.index ≠ byteOf i.val) :
    (imageTaken img s).windows[i.val] = s.windows[i.val] := by
  rw [imageTaken,
    foldl_records_none (g := fun u => u.windows[i.val]) (applyOpening_window i) _ _ h,
    foldl_records_none (g := fun u => u.windows[i.val]) (applyWindow_window i) _ _ h]
  simp only [foldl_keeps (P := fun u => u.windows = s.windows) (profileRecords img)
    (fun u r hu => (applyProfile_windows u r).trans hu) s rfl]

/-- A window that a record names is what the record says (R185). -/
theorem imageTaken_window {i : WinIx} {n : Target} {r : ImageRecord}
    (hdup : duplicateAt img = none) (hr : r ∈ windowRecords img) (hi : r.index = byteOf i.val)
    (hn : byteAt r.bytes 3 = byteOf n.val) :
    (imageTaken img s).windows[i.val] = r.opens (windowOfRecord n r.bytes) := by
  have hnodup := (duplicateAt_none.mp hdup).2
  rw [imageTaken,
    foldl_records_one (g := fun u => u.windows[i.val]) (applyOpening_window i) hnodup _ hr hi,
    foldl_records_one (g := fun u => u.windows[i.val]) (applyWindow_window i) hnodup _ hr hi,
    ImageRecord.defines, hn, indexOf_byteOf (by decide)]

/-- Every window of a good image is named by no record, or by one in its ranges. -/
theorem imageTaken_window_cases (hgood : imageFailure img = none) (i : WinIx) :
    ((imageTaken img s).windows[i.val] = s.windows[i.val]) ∨
      ∃ (r : ImageRecord) (n : Target), r ∈ windowRecords img ∧ r.index = byteOf i.val ∧
        byteAt r.bytes 3 = byteOf n.val ∧
        (imageTaken img s).windows[i.val] = r.opens (windowOfRecord n r.bytes) := by
  obtain ⟨-, hbad, hdup, -⟩ := imageFailure_none.mp hgood
  by_cases h : ∀ r ∈ windowRecords img, r.index ≠ byteOf i.val
  · exact .inl (imageTaken_window_none s h)
  · push Not at h
    obtain ⟨r, hr, hi⟩ := h
    obtain ⟨n, hn⟩ := indexOf_lt (windowBadAt_none_index ((recordBadAt_none.mp hbad).2 r hr)).2
    have hn' := indexOf_some hn
    exact .inr ⟨r, n, hr, hi, hn', imageTaken_window s hdup hr hi hn'⟩

/-- The profile of a target that a record names (R185). -/
theorem imageTaken_profile {n : Target} {r : ImageRecord} (hdup : duplicateAt img = none)
    (hr : r ∈ profileRecords img) (hn : r.index = byteOf n.val) :
    (imageTaken img s).profiles[n.val] = some (profileOf r.bytes) := by
  simp only [imageTaken_profiles]
  exact foldl_records_one (g := fun u => u.profiles[n.val])
    (F := fun r _ => some (profileOf r.bytes)) (applyProfile_profile n)
    (duplicateAt_none.mp hdup).1 s hr hn

theorem imageTaken_profile_none {n : Target}
    (h : ∀ r ∈ profileRecords img, r.index ≠ byteOf n.val) :
    (imageTaken img s).profiles[n.val] = s.profiles[n.val] := by
  simp only [imageTaken_profiles]
  exact foldl_records_none (g := fun u => u.profiles[n.val])
    (F := fun r _ => some (profileOf r.bytes)) (applyProfile_profile n) _ s h

/-- The filter of a target with its pin's level, after each profile record. -/
theorem applyProfile_pin (n : Target) (u : State) (r : ImageRecord) :
    ((applyProfile u r).filters[n.val], (applyProfile u r).rdy[n.val]) =
      if r.index = byteOf n.val then (freshFilter u.rdy[n.val], u.rdy[n.val])
      else (u.filters[n.val], u.rdy[n.val]) := by
  simp only [applyProfile_filter, applyProfile_rdy]
  split <;> rfl

theorem imageTaken_filter {n : Target} {r : ImageRecord} (hdup : duplicateAt img = none)
    (hr : r ∈ profileRecords img) (hn : r.index = byteOf n.val) :
    (imageTaken img s).filters[n.val] = freshFilter s.rdy[n.val] := by
  simp only [imageTaken_filters]
  exact congrArg Prod.fst (foldl_records_one (g := fun u => (u.filters[n.val], u.rdy[n.val]))
    (F := fun _ x => (freshFilter x.2, x.2)) (applyProfile_pin n) (duplicateAt_none.mp hdup).1 s
    hr hn)

theorem imageTaken_filter_none {n : Target}
    (h : ∀ r ∈ profileRecords img, r.index ≠ byteOf n.val) :
    (imageTaken img s).filters[n.val] = s.filters[n.val] := by
  simp only [imageTaken_filters]
  exact congrArg Prod.fst (foldl_records_none (g := fun u => (u.filters[n.val], u.rdy[n.val]))
    (F := fun _ x => (freshFilter x.2, x.2)) (applyProfile_pin n) _ s h)

/-- Attention sources at rest and disabled, as a cold reset leaves them, stay so (R185). -/
theorem imageTaken_sources
    (h : ∀ e : SrcIx, e.val < 8 →
      s.sources[e.val] = Source.resting false s.sources[e.val].mode ∧ e ∉ s.notices) :
    (imageTaken img s).sources = s.sources ∧ (imageTaken img s).notices = s.notices := by
  rw [imageTaken_after_profiles]
  refine foldl_keeps (P := fun u => u.sources = s.sources ∧ u.notices = s.notices)
    (profileRecords img) (fun u r hu => ?_) s ⟨rfl, rfl⟩
  obtain ⟨hsources, hnotices⟩ := hu
  unfold applyProfile
  split
  · exact ⟨hsources, hnotices⟩
  · rename_i t _
    dsimp only
    unfold takeProfile
    split
    · obtain ⟨hrest, hout⟩ := h (attnSource t) t.isLt
      constructor
      · simp only [disableKeepingMode, disableSource_sources, hsources]
        rw [← hrest, Vector.set_getElem_self]
      · simp only [disableKeepingMode, disableSource_notices, hnotices]
        exact List.filter_eq_self.mpr fun e he => bne_iff_ne.mpr fun hee => hout (hee ▸ he)
    · exact ⟨hsources, hnotices⟩

end Taken

/-- Settles O50: the windows, profiles and filters record by record, the rest from the frame. -/
theorem goodImageIsApplied : Obligations.GoodImageIsApplied := by
  intro img s hgood
  obtain ⟨-, -, hdup, -⟩ := imageFailure_none.mp hgood
  rw [applyImage_frame]
  refine ⟨fun r i n hr hi hn => ?_, fun i h => imageTaken_window_none s h, fun r n hr hn =>
    ⟨imageTaken_profile s hdup hr hn, imageTaken_filter s hdup hr hn⟩, fun n h =>
    ⟨imageTaken_profile_none s h, imageTaken_filter_none s h⟩, rfl, rfl, rfl, rfl, rfl, rfl, rfl,
    rfl, rfl, rfl, rfl, rfl, imageTaken_sources s⟩
  rw [imageTaken_window s hdup hr hi hn, ImageRecord.opens]
  simp only [recOpens, beq_iff_eq]
  split <;> rfl

end Sys2Proof.Machine
end

section
/-! PROOFS. The laws of the windows: OPEN windows apart, the profiles of used targets SET, the tables a
load finds, and the outstanding counts. -/

namespace Sys2Proof.Machine

/-! ## Windows that keep their place -/

/-- A window keeps its range, target and rights, and its state but for the end of a drain (R18). -/
structure Window.NarrowsTo (w v : Window) : Prop where
  same : v = { w with state := v.state, outstanding := v.outstanding }
  state : v.state = w.state ∨ w.state = .draining ∧ v.state = .closed

theorem Window.NarrowsTo.refl (w : Window) : w.NarrowsTo w := ⟨rfl, .inl rfl⟩

theorem Window.NarrowsTo.trans {w v u : Window} (h : w.NarrowsTo v) (h' : v.NarrowsTo u) :
    w.NarrowsTo u := by
  refine ⟨h'.same.trans (by rw [h.same]), ?_⟩
  rcases h'.state with hs' | ⟨hd, hc⟩
  · rcases h.state with hs | ⟨hd, hc⟩
    · exact .inl (hs'.trans hs)
    · exact .inr ⟨hd, hs'.trans hc⟩
  · rcases h.state with hs | ⟨-, hc'⟩
    · exact .inr ⟨hs.symm.trans hd, hc⟩
    · rw [hc'] at hd; cases hd

theorem Window.lowered_narrows (w : Window) : w.NarrowsTo w.lowered := by
  refine ⟨rfl, ?_⟩
  unfold Window.lowered Window.drains
  dsimp only
  split
  · rename_i h; exact .inr ⟨by simpa using (Bool.and_eq_true_iff.mp h).1, rfl⟩
  · exact .inl rfl

/-- Every window of a table keeps its place. -/
def WindowsNarrow (s t : State) : Prop :=
  ∀ i : WinIx, s.windows[i.val].NarrowsTo t.windows[i.val]

theorem WindowsNarrow.trans {s t u : State} (h : WindowsNarrow s t) (h' : WindowsNarrow t u) :
    WindowsNarrow s u := fun i => (h i).trans (h' i)

theorem lowerCount_window (i x : WinIx) (s : State) :
    (lowerCount i s).windows[x.val] =
      if x = i then s.windows[x.val].lowered else s.windows[x.val] := by
  rw [lowerCount_eq]
  simp only [getElem_set_fin]
  split
  · rename_i h; rw [h]
  · rfl

theorem windowsNarrow_lowerCount (i : WinIx) (s : State) : WindowsNarrow s (lowerCount i s) := by
  intro x
  rw [lowerCount_window]
  split
  · exact Window.lowered_narrows _
  · exact Window.NarrowsTo.refl _

theorem windowsNarrow_linkResetSlot (tag : Tag) (s : State) :
    WindowsNarrow s (linkResetSlot s tag) := by
  unfold linkResetSlot
  split
  · exact windowsNarrow_lowerCount _ (setSlot tag Slot.freed s)
  · exact windowsNarrow_lowerCount _ (setSlot tag Slot.freed s)
  all_goals exact fun i => Window.NarrowsTo.refl _

theorem windowsNarrow_linkReset (s : State) : WindowsNarrow s (linkReset s) := by
  have h : WindowsNarrow s (linkResetSlots s) :=
    linkResetSlots_keeps (P := WindowsNarrow s)
      (fun tag u hu => hu.trans (windowsNarrow_linkResetSlot tag u)) s
      fun i => Window.NarrowsTo.refl _
  unfold linkReset
  generalize linkResetSlots s = u at h ⊢
  exact h

theorem windowsNarrow_acceptSubmit (payload : List Byte) (tag : Tag) (i : WinIx) (s : State) :
    WindowsNarrow s (acceptSubmit payload tag i s) := by
  intro x
  show s.windows[x.val].NarrowsTo (s.windows.set i.val
    { s.windows[i.val] with outstanding := s.windows[i.val].outstanding + 1 })[x.val]
  rw [getElem_set_fin]
  split
  · rename_i h; subst h; exact ⟨rfl, .inl rfl⟩
  · exact Window.NarrowsTo.refl _

/-- Every window that is FREE stays so, and every other change of a window's state is the end of its
drain: what a change does to the windows of a table, where it neither defines nor opens nor closes one. -/
theorem narrows_state {s t : State} (h : WindowsNarrow s t) (i : WinIx) :
    (s.windows[i.val].state = .free → t.windows[i.val].state = .free) ∧
      (t.windows[i.val].state = .opened → s.windows[i.val].state = .opened) ∧
      (t.windows[i.val].state = .draining → s.windows[i.val].state = .draining) := by
  rcases (h i).state with hs | ⟨hd, hc⟩
  · rw [hs]; exact ⟨id, id, id⟩
  · rw [hd, hc]; exact ⟨nofun, nofun, nofun⟩

/-! ## The tables a load finds -/

theorem loadLaw_narrow {s t : State} (hs : LoadLaw s) (h : WindowsNarrow s t)
    (hreset : t.inReset = s.inReset) (hphase : t.loadPhase = s.loadPhase)
    (hlink : t.link = s.link) : LoadLaw t := by
  obtain ⟨hheld, hloading⟩ := hs
  refine ⟨fun hr => ?_, fun hp => ?_⟩
  · obtain ⟨hnone, hfree⟩ := hheld (hreset ▸ hr)
    exact ⟨hphase.trans hnone, fun i => (narrows_state h i).1 (hfree i)⟩
  · obtain ⟨hl, hfree⟩ := hloading (hphase ▸ hp)
    exact ⟨hlink.trans hl, fun i => (narrows_state h i).1 (hfree i)⟩

/-- A running part out of LOADING has no load in progress; its windows are its own. -/
theorem loadLaw_running {t : State} (hrun : t.inReset = false) (hphase : t.loadPhase = none) :
    LoadLaw t :=
  ⟨fun h => absurd (hrun.symm.trans h) Bool.false_ne_true, fun h => by rw [hphase] at h; cases h⟩

theorem LoadLaw.phase_none {s : State} (hs : LoadLaw s) (hlink : s.link ≠ .loading) :
    s.loadPhase = none := by
  cases h : s.loadPhase with
  | none => rfl
  | some p => exact absurd (hs.2 (by rw [h]; rfl)).1 hlink

/-- With a window in use no load is in progress, and the part runs. -/
theorem LoadLaw.not_free {s : State} (hs : LoadLaw s) {i : WinIx}
    (h : s.windows[i.val].state ≠ .free) : s.inReset = false ∧ s.loadPhase = none := by
  constructor
  · cases hr : s.inReset with
    | false => rfl
    | true => exact absurd ((hs.1 hr).2 i) h
  · cases hp : s.loadPhase with
    | none => rfl
    | some p => exact absurd ((hs.2 (by rw [hp]; rfl)).2 i) h

theorem LoadLaw.running {s : State} (hs : LoadLaw s) (h : s.loadPhase.isSome = true) :
    s.inReset = false := by
  cases hr : s.inReset with
  | false => rfl
  | true => rw [(hs.1 hr).1] at h; cases h

theorem Change.loadLaw {s t : State} (h : Change s t) (hs : LoadLaw s) : LoadLaw t := by
  cases h with
  | @done tag =>
    have hn := windowsNarrow_lowerCount s.slots[tag.val].window s
    rw [enterDone_eq]
    rw [lowerCount_eq] at hn ⊢
    exact loadLaw_narrow hs hn rfl rfl rfl
  | @orphanFreed tag =>
    have hn := windowsNarrow_lowerCount s.slots[tag.val].window (setSlot tag Slot.freed s)
    rw [freeOrphan]
    rw [lowerCount_eq] at hn ⊢
    exact loadLaw_narrow hs hn rfl rfl rfl
  | accepted =>
    exact loadLaw_narrow hs (windowsNarrow_acceptSubmit _ _ _ _) rfl rfl rfl
  | window running link =>
    exact loadLaw_running running (hs.phase_none (by simp [link]))
  | windowOpened running link =>
    exact loadLaw_running running (hs.phase_none (by simp [link]))
  | windowClosed was =>
    obtain ⟨hrun, hphase⟩ := hs.not_free (by rw [was]; decide)
    exact loadLaw_running hrun hphase
  | profile => rw [takeProfile_frame]; exact hs
  | session link =>
    have hphase := hs.phase_none (by simp [link])
    exact ⟨hs.1, fun h => by rw [show _ = none from hphase] at h; cases h⟩
  | linkReset link =>
    have hn := windowsNarrow_linkReset s
    have hphase := hs.phase_none link
    rw [linkReset_frame] at hn ⊢
    exact ⟨fun hr => ⟨hphase, fun i => (narrows_state hn i).1 ((hs.1 hr).2 i)⟩,
      fun h => by rw [show _ = none from hphase] at h; cases h⟩
  | loadEnds => exact ⟨fun hr => ⟨rfl, (hs.1 hr).2⟩, fun h => by cases h⟩
  | loadBody loading =>
    exact ⟨fun hr => absurd ((hs.running loading).symm.trans hr) Bool.false_ne_true,
      fun _ => hs.2 loading⟩
  | image loading =>
    rw [applyImage_frame]
    exact loadLaw_running (hs.running loading) rfl
  | _ => exact hs

theorem loadLaw_coldState (s : State) : LoadLaw (coldState s) :=
  ⟨fun _ => ⟨rfl, fun i => by rw [coldState_window]; rfl⟩, fun h => by cases h⟩

theorem Move.loadLaw {s t : State} (h : Move s t) (hs : LoadLaw s) : LoadLaw t := by
  cases h with
  | change h => exact h.loadLaw hs
  | cold => exact loadLaw_coldState s
  | released held => exact loadLaw_running rfl (hs.1 held).1
  | loading held => exact ⟨fun h => (by cases h), fun _ => ⟨rfl, (hs.1 held).2⟩⟩
  | _ => exact hs

/-! ## The outstanding counts -/

/-- A live slot accepted through a window (R16). -/
def Slot.liveIn (i : WinIx) (sl : Slot) : Bool := sl.live && sl.window == i

/-- What a count of live slots asks of a window (R16, R3). -/
def Window.counts (w : Window) (n : Nat) : Prop :=
  w.outstanding = n ∧ (w.state = .free ∨ w.state = .closed → w.outstanding = 0) ∧
    (w.state = .draining → 0 < w.outstanding)

/-- A slot is rewritten: one slot of a kind fewer where the old one was of it, one more where the new
is. -/
theorem countP_set_slot (p : Slot → Bool) {s t : State} {tag : Tag} {sl : Slot}
    (h : t.slots = s.slots.set tag.val sl) :
    t.slots.toList.countP p + (if p s.slots[tag.val] then 1 else 0) =
      s.slots.toList.countP p + if p sl then 1 else 0 := by
  have hlt : tag.val < s.slots.toList.length := by simp
  have hpos : (if p s.slots[tag.val] then 1 else 0) ≤ s.slots.toList.countP p := by
    split
    · rename_i hp
      exact List.countP_pos_iff.mpr ⟨_, by simp, hp⟩
    · exact Nat.zero_le _
  have hset : t.slots.toList.countP p =
      s.slots.toList.countP p - (if p s.slots[tag.val] then 1 else 0) + if p sl then 1 else 0 := by
    rw [h, Vector.toList_set, List.countP_set hlt]
    simp
  omega

theorem liveThrough_set {s t : State} {tag : Tag} {sl : Slot} (i : WinIx)
    (h : t.slots = s.slots.set tag.val sl) :
    liveThrough i t + (if s.slots[tag.val].liveIn i then 1 else 0) =
      liveThrough i s + if sl.liveIn i then 1 else 0 := countP_set_slot (Slot.liveIn i) h

/-- Where neither windows nor live slots change, the counts hold on. -/
theorem countLaw_setSame {s t : State} {tag : Tag} {sl : Slot} (hs : CountLaw s)
    (hslots : t.slots = s.slots.set tag.val sl) (hwindows : t.windows = s.windows)
    (hsame : ∀ i : WinIx, sl.liveIn i = s.slots[tag.val].liveIn i) : CountLaw t := by
  intro i
  have hlive := liveThrough_set i hslots
  rw [hsame i] at hlive
  rw [Nat.add_right_cancel hlive, hwindows]
  exact hs i

/-- A window whose count falls still counts its live slots (R16, R18). -/
theorem Window.lowered_counts {w : Window} {n : Nat} (h : w.counts (n + 1)) :
    w.lowered.counts n := by
  obtain ⟨hcount, hidle, hdrain⟩ := h
  have hstate : ¬ (w.state = .free ∨ w.state = .closed) := fun hst => by
    have := hidle hst; omega
  unfold Window.lowered Window.drains
  refine ⟨by simp [hcount], ?_, ?_⟩
  · dsimp only
    split
    · rename_i hd
      have : w.outstanding = 1 := by simpa using (Bool.and_eq_true_iff.mp hd).2
      intro _; omega
    · exact fun hst => absurd hst hstate
  · dsimp only
    split
    · exact fun h => by cases h
    · rename_i hd
      intro hdr
      have hne : w.outstanding ≠ 1 := by simpa [hdr] using hd
      have := hdrain hdr
      omega

/-- A live slot leaves its window (R16). -/
theorem countLaw_leaves {s t : State} {tag : Tag} {sl : Slot} (hs : CountLaw s)
    (hslots : t.slots = s.slots.set tag.val sl)
    (hwindows : ∀ i : WinIx, t.windows[i.val] =
      if i = s.slots[tag.val].window then s.windows[i.val].lowered else s.windows[i.val])
    (was : s.slots[tag.val].live = true) (is : sl.live = false) : CountLaw t := by
  intro i
  show (t.windows[i.val]).counts (liveThrough i t)
  have hlive := liveThrough_set i hslots
  have hout : sl.liveIn i = false := by simp [Slot.liveIn, is]
  rw [hwindows]
  rw [hout] at hlive
  split
  · rename_i he
    subst he
    have hin : s.slots[tag.val].liveIn s.slots[tag.val].window = true := by
      simp [Slot.liveIn, was]
    rw [hin] at hlive
    have hcounts : (s.windows[(s.slots[tag.val].window).val]).counts
      (liveThrough s.slots[tag.val].window t + 1) := hlive ▸ hs s.slots[tag.val].window
    exact Window.lowered_counts hcounts
  · rename_i hne
    have hother : s.slots[tag.val].liveIn i = false := by
      simp [Slot.liveIn, Ne.symm hne]
    rw [hother] at hlive
    have heq : liveThrough i t = liveThrough i s := Nat.add_right_cancel hlive
    rw [heq]
    exact hs i

theorem Slot.live_of_inQueue {sl : Slot} (h : sl.inQueue) : sl.live = true := by
  rcases h with h | h | h <;> simp [Slot.live, h]

theorem Slot.live_of_orphaned {sl : Slot} (h : sl.state = .orphaned) : sl.live = true := by
  simp [Slot.live, h]

theorem Slot.not_live_done {sl : Slot} (h : sl.state = .done) : sl.live = false := by
  simp [Slot.live, h]

theorem Slot.freed_not_live : Slot.freed.live = false := rfl

theorem countLaw_linkResetSlot {s : State} (tag : Tag) (hs : CountLaw s) :
    CountLaw (linkResetSlot s tag) := by
  have leaves (h : s.slots[tag.val].live = true) :
      CountLaw (lowerCount s.slots[tag.val].window (setSlot tag Slot.freed s)) := by
    refine countLaw_leaves hs (tag := tag) ?_ (fun i => lowerCount_window _ i _) h
      Slot.freed_not_live
    rw [lowerCount_eq]
    rfl
  unfold linkResetSlot
  split <;> rename_i hst
  · exact leaves (Slot.live_of_inQueue (.inl hst))
  · exact leaves (Slot.live_of_inQueue (.inr (.inr hst)))
  · exact countLaw_setSame hs (tag := tag) rfl rfl fun i => by simp [Slot.liveIn, Slot.live, hst]
  · exact countLaw_setSame hs (tag := tag) rfl rfl fun i => by
      simp [Slot.liveIn, Slot.not_live_done hst, Slot.freed_not_live]
  · exact hs
  · exact hs

theorem countLaw_linkReset {s : State} (hs : CountLaw s) : CountLaw (linkReset s) := by
  have h := linkResetSlots_keeps (fun tag _ => countLaw_linkResetSlot tag) s hs
  unfold linkReset
  generalize linkResetSlots s = u at h ⊢
  exact h

/-- One window is rewritten, counting as many live slots as before. -/
theorem countLaw_setWindow {s : State} {i : WinIx} {w : Window} (hs : CountLaw s)
    (h : w.counts (liveThrough i s)) : CountLaw (setWindow i w s) := by
  intro x
  show ((s.windows.set i.val w)[x.val]).counts (liveThrough x s)
  rw [getElem_set_fin]
  split
  · rename_i he; subst he; exact h
  · exact hs x

theorem countLaw_acceptSubmit {s : State} {payload : List Byte} {tag : Tag} {i : WinIx}
    (hs : CountLaw s) (free : s.slots[tag.val].state = .free)
    (opened : s.windows[i.val].state = .opened) : CountLaw (acceptSubmit payload tag i s) := by
  obtain ⟨hstate, -, hwindow⟩ := submitSlot_state payload i s.windows[i.val]
    (pageCodeAt s.windows[i.val].target s)
  intro x
  have hlive := liveThrough_set (t := acceptSubmit payload tag i s) (tag := tag) x rfl
  have hwas : s.slots[tag.val].liveIn x = false := by simp [Slot.liveIn, Slot.live, free]
  rw [hwas] at hlive
  show ((s.windows.set i.val
    { s.windows[i.val] with outstanding := s.windows[i.val].outstanding + 1 })[x.val]).counts _
  rw [getElem_set_fin]
  split
  · rename_i he
    subst he
    have hin : (submitSlot payload x s.windows[x.val]
        (pageCodeAt s.windows[x.val].target s)).liveIn x = true := by
      simp [Slot.liveIn, Slot.live, hstate, hwindow]
    rw [hin] at hlive
    have hcount : s.windows[x.val].outstanding = liveThrough x s := (hs x).1
    refine ⟨?_, fun h => ?_, fun h => ?_⟩
    · show s.windows[x.val].outstanding + 1 = _
      rw [hcount]
      exact hlive.symm
    · simp [opened] at h
    · simp [opened] at h
  · rename_i hne
    have hout : (submitSlot payload i s.windows[i.val]
        (pageCodeAt s.windows[i.val].target s)).liveIn x = false := by
      simp [Slot.liveIn, hwindow, Ne.symm hne]
    rw [hout] at hlive
    have heq : liveThrough x (acceptSubmit payload tag i s) = liveThrough x s := hlive
    rw [heq]
    exact hs x

/-- While all windows are FREE no slot is live, so a good image defines windows that count none. -/
theorem countLaw_applyImage {s : State} {img : List Byte} (hs : CountLaw s)
    (hfree : ∀ i : WinIx, s.windows[i.val].state = .free) (hgood : imageFailure img = none) :
    CountLaw (applyImage img s) := by
  rw [applyImage_frame]
  intro i
  have hnone : liveThrough i s = 0 := by rw [← (hs i).1]; exact (hs i).2.1 (.inl (hfree i))
  have hcounts : ((imageTaken img s).windows[i.val]).counts (liveThrough i s) := by
    rcases imageTaken_window_cases s hgood i with h | ⟨r, n, -, -, -, h⟩ <;> rw [h]
    · exact hs i
    · rw [hnone, ImageRecord.opens]
      split
      · exact ⟨rfl, fun _ => rfl, fun h => by cases h⟩
      · exact ⟨rfl, fun _ => rfl, fun h => by cases h⟩
  exact hcounts

theorem Change.countLaw {s t : State} (h : Change s t) (hl : LoadLaw s) (hs : CountLaw s) :
    CountLaw t := by
  cases h with
  | @slot tag sl stood stands target window =>
    refine countLaw_setSame hs (tag := tag) rfl rfl fun i => ?_
    rw [Slot.liveIn, Slot.liveIn, Slot.live_of_inQueue stood, Slot.live_of_inQueue stands, window]
  | @done tag status stood =>
    rw [enterDone_eq]
    refine countLaw_leaves hs (tag := tag) rfl (fun i => lowerCount_window _ i s)
      (Slot.live_of_inQueue stood) (Slot.not_live_done rfl)
  | @orphanFreed tag orphan =>
    refine countLaw_leaves hs (tag := tag) ?_ (fun i => lowerCount_window _ i _)
      (Slot.live_of_orphaned orphan) Slot.freed_not_live
    rw [freeOrphan, lowerCount_eq]
    rfl
  | @taken tag done =>
    exact countLaw_setSame hs (tag := tag) rfl rfl fun i => by
      simp [Slot.liveIn, Slot.not_live_done done, Slot.freed_not_live]
  | @discarded tag done =>
    exact countLaw_setSame hs (tag := tag) rfl rfl fun i => by
      simp [Slot.liveIn, Slot.not_live_done done, Slot.freed_not_live]
  | accepted free opened => exact countLaw_acceptSubmit hs free opened
  | @window i w running link was is none =>
    refine countLaw_setWindow hs ⟨?_, fun _ => none, fun h => ?_⟩
    · rw [← (hs i).1, (hs i).2.1 was, none]
    · rcases is with h' | h' <;> rw [h'] at h <;> cases h
  | @windowOpened i running link was =>
    refine countLaw_setWindow hs ⟨?_, fun _ => rfl, fun h => by cases h⟩
    rw [← (hs i).1, (hs i).2.1 (.inr was)]
    rfl
  | @windowClosed i was =>
    have hcount : s.windows[i.val].outstanding = liveThrough i s := (hs i).1
    refine countLaw_setWindow hs ⟨hcount, fun h => ?_, fun h => ?_⟩
    · simp only [closeState] at h
      by_contra hne
      simp [hne] at h
    · refine Nat.pos_of_ne_zero fun hzero => ?_
      have hzero' : s.windows[i.val].outstanding = 0 := hzero
      simp [closeState, hzero'] at h
  | profile => rw [takeProfile_frame]; exact hs
  | linkReset => exact countLaw_linkReset hs
  | image loading good => exact countLaw_applyImage hs (hl.2 loading).2 good
  | _ => exact hs

theorem countLaw_coldState (s : State) : CountLaw (coldState s) := by
  intro i
  have hnone : liveThrough i (coldState s) = 0 := by
    refine List.countP_eq_zero.mpr fun sl hsl => ?_
    have hfreed : sl = Slot.freed := by
      rw [toList_finRange] at hsl
      obtain ⟨x, -, hx⟩ := List.mem_map.mp hsl
      rw [← hx, coldState_slot]
    simp [hfreed, Slot.freed_not_live]
  rw [hnone, coldState_window]
  exact ⟨rfl, fun _ => rfl, fun h => by cases h⟩

/-- The laws that the counts rest on, together. -/
def CountLaws (s : State) : Prop := LoadLaw s ∧ DeliveryLaw s ∧ CountLaw s

theorem Move.counts {s t : State} (h : Move s t) (hs : CountLaws s) : CountLaws t := by
  obtain ⟨hl, hd, hc⟩ := hs
  refine ⟨h.loadLaw hl, ?_, ?_⟩
  · cases h with
    | change h => exact h.deliveryLaw hd
    | push => exact deliveryLaw_freeDone _ hd
    | cold => exact deliveryLaw_coldState s
    | _ => exact hd
  · cases h with
    | change h => exact h.countLaw hl hc
    | @push tag waits =>
      exact countLaw_setSame hc (tag := tag) rfl rfl fun i => by
        simp [Slot.liveIn, Slot.not_live_done ((hd.1 tag).mp waits), Slot.freed_not_live]
    | cold => exact countLaw_coldState s
    | _ => exact hc

/-- Settles O58: each move keeps the counts; an image finds all windows FREE, a push a DONE tag. -/
theorem stepsKeepTheCounts : Obligations.StepsKeepTheCounts := by
  intro s t hl hd hc hstep
  exact (step_keeps (fun _ _ h => h.counts) (fun _ _ _ h => h) hstep
    (show CountLaws s from ⟨hl, hd, hc⟩)).2.2

/-! ## OPEN windows apart, used profiles SET -/

theorem overlapLaw_narrow {s t : State} (hs : OverlapLaw s) (h : WindowsNarrow s t) :
    OverlapLaw t := by
  intro i j hne hi hj
  have hsame := hs i j hne ((narrows_state h i).2.1 hi) ((narrows_state h j).2.1 hj)
  rw [(h i).same, (h j).same]
  exact hsame

/-- Where the windows keep their place, no profile is lost, and no queue gains a tag of an UNSET
target, the law of R27 is kept. -/
theorem profileLaw_narrow {s t : State} (hs : ProfileLaw s) (h : WindowsNarrow s t)
    (hprofiles : ∀ n : Target, (s.profiles[n.val]).isSome = true → (t.profiles[n.val]).isSome = true)
    (hqueues : ∀ (n : Target) (tag : Tag), tag ∈ t.queues[n.val] →
      tag ∈ s.queues[n.val] ∨ (s.profiles[n.val]).isSome = true) : ProfileLaw t := by
  refine ⟨fun i hi => ?_, fun n tag hn => ?_⟩
  · have hwas := hs.1 i (hi.imp (narrows_state h i).2.1 (narrows_state h i).2.2)
    have htarget : t.windows[i.val].target = s.windows[i.val].target := by rw [(h i).same]
    simp only [htarget]
    exact hprofiles _ hwas
  · exact hprofiles n ((hqueues n tag hn).elim (hs.2 n tag) id)

/-- One window is rewritten, apart from every other OPEN one where it is OPEN. -/
theorem overlapLaw_setWindow {s : State} {i : WinIx} {w : Window} (hs : OverlapLaw s)
    (h : w.state = .opened → ∀ j : WinIx, j ≠ i → s.windows[j.val].state = .opened →
      rangesMeet w.base w.limit s.windows[j.val].base s.windows[j.val].limit = false) :
    OverlapLaw (setWindow i w s) := by
  intro x y hne hx hy
  rw [setWindow_windows] at hx hy ⊢
  rw [getElem_set_fin] at hx hy
  rw [getElem_set_fin, getElem_set_fin]
  by_cases hxi : x = i
  · have hyi : y ≠ i := fun he => hne (hxi.trans he.symm)
    rw [if_pos hxi] at hx ⊢
    rw [if_neg hyi] at hy ⊢
    exact h hx y hyi hy
  · rw [if_neg hxi] at hx ⊢
    by_cases hyi : y = i
    · rw [if_pos hyi] at hy ⊢
      rw [rangesMeet_comm]
      exact h hy x hxi hx
    · rw [if_neg hyi] at hy ⊢
      exact hs x y hne hx hy

theorem profileLaw_setWindow {s : State} {i : WinIx} {w : Window} (hs : ProfileLaw s)
    (h : w.state = .opened ∨ w.state = .draining → (s.profiles[w.target.val]).isSome = true) :
    ProfileLaw (setWindow i w s) := by
  refine ⟨fun x hx => ?_, hs.2⟩
  simp only [setWindow_windows, setWindow_profiles, getElem_set_fin] at hx ⊢
  by_cases hxi : x = i
  · simp only [if_pos hxi] at hx ⊢
    exact h hx
  · simp only [if_neg hxi] at hx ⊢
    exact hs.1 x hx

/-- The test of R8 at a WIN_OPEN. -/
theorem overlapsOpen_false {i : WinIx} {s : State} (h : overlapsOpen i s = false) {j : WinIx}
    (hne : j ≠ i) (hj : s.windows[j.val].state = .opened) :
    rangesMeet s.windows[i.val].base s.windows[i.val].limit s.windows[j.val].base
      s.windows[j.val].limit = false := by
  have hj' := List.any_eq_false.mp h j (List.mem_finRange j)
  simpa [hne, hj] using hj'

theorem profile_kept_by_set {s : State} (t : Target) (p : Profile) (n : Target)
    (h : (s.profiles[n.val]).isSome = true) :
    ((s.profiles.set t.val (some p))[n.val]).isSome = true := by
  rw [getElem_set_fin]
  split
  · rfl
  · exact h

/-- A good image opens windows that are apart, where none was OPEN before (R181). -/
theorem overlapLaw_applyImage {s : State} {img : List Byte}
    (hfree : ∀ i : WinIx, s.windows[i.val].state = .free) (hgood : imageFailure img = none) :
    OverlapLaw (applyImage img s) := by
  obtain ⟨-, -, -, -, hover, -⟩ := imageFailure_none.mp hgood
  have opened : ∀ i : WinIx, (imageTaken img s).windows[i.val].state = .opened →
      ∃ r ∈ windowRecords img, r.index = byteOf i.val ∧ recOpens r.bytes = true ∧
        (imageTaken img s).windows[i.val].base = recBase r.bytes ∧
        (imageTaken img s).windows[i.val].limit = recLimit r.bytes := by
    intro i hi
    rcases imageTaken_window_cases s hgood i with h | ⟨r, n, hr, hix, -, h⟩
    · rw [h, hfree i] at hi; cases hi
    · rw [h] at hi ⊢
      unfold ImageRecord.opens at hi ⊢
      split at hi
      · rename_i ho
        simp only [if_pos ho]
        exact ⟨r, hr, hix, ho, rfl, rfl⟩
      · cases hi
  rw [applyImage_frame]
  intro i j hne hi hj
  obtain ⟨r, hr, hri, hro, hbase, hlimit⟩ := opened i hi
  obtain ⟨q, hq, hqj, hqo, hbase', hlimit'⟩ := opened j hj
  show rangesMeet (imageTaken img s).windows[i.val].base (imageTaken img s).windows[i.val].limit
    (imageTaken img s).windows[j.val].base (imageTaken img s).windows[j.val].limit = false
  rw [hbase, hlimit, hbase', hlimit']
  refine records_apart hover hr hq hro hqo ?_
  rintro rfl
  have hbytes := congrArg BitVec.toNat (hri.symm.trans hqj)
  rw [byteOf_toNat _ (by omega), byteOf_toNat _ (by omega)] at hbytes
  exact hne (Fin.ext hbytes)

/-- No profile is lost by the records of an image. -/
theorem imageTaken_keeps_profiles {s : State} {img : List Byte} {n : Target}
    (h : (s.profiles[n.val]).isSome = true) :
    ((imageTaken img s).profiles[n.val]).isSome = true := by
  simp only [imageTaken_profiles]
  refine foldl_keeps (P := fun u => (u.profiles[n.val]).isSome = true) (profileRecords img)
    (fun u r hu => ?_) s h
  rw [applyProfile_profile]
  split
  · rfl
  · exact hu

/-- Each window record of a good image refers to a profile record (R181). -/
theorem profileLaw_applyImage {s : State} {img : List Byte} (hs : ProfileLaw s)
    (hfree : ∀ i : WinIx, s.windows[i.val].state = .free) (hgood : imageFailure img = none) :
    ProfileLaw (applyImage img s) := by
  obtain ⟨-, -, hdup, href, -, -⟩ := imageFailure_none.mp hgood
  rw [applyImage_frame]
  refine ⟨fun i hi => ?_, fun n tag hn => imageTaken_keeps_profiles (hs.2 n tag hn)⟩
  rcases imageTaken_window_cases s hgood i with h | ⟨r, n, hr, -, hn, h⟩
  · have hstate : (imageTaken img s).windows[i.val].state = .free := by rw [h, hfree i]
    rcases hi with hi | hi <;> exact absurd (hstate.symm.trans hi) (by decide)
  · have htarget : (imageTaken img s).windows[i.val].target = n := by
      rw [h, ImageRecord.opens]; split <;> rfl
    obtain ⟨q, hq, hqn⟩ := referenceAt_none.mp href r hr
    have hset := imageTaken_profile s hdup hq (hqn.trans hn)
    simp only [htarget]
    rw [hset]
    rfl

/-- The laws of the windows in use, with what a load finds. -/
def WindowLaws (s : State) : Prop := LoadLaw s ∧ OverlapLaw s ∧ ProfileLaw s

theorem Change.windowLaws {s t : State} (h : Change s t) (hs : WindowLaws s) : WindowLaws t := by
  obtain ⟨hl, ho, hp⟩ := hs
  have hl' := h.loadLaw hl
  refine ⟨hl', ?_⟩
  have narrowed : ∀ u : State, WindowsNarrow s u → u.profiles = s.profiles →
      (∀ (n : Target) (tag : Tag), tag ∈ u.queues[n.val] →
        tag ∈ s.queues[n.val] ∨ (s.profiles[n.val]).isSome = true) →
      OverlapLaw u ∧ ProfileLaw u := fun u hn hprof hq =>
    ⟨overlapLaw_narrow ho hn, profileLaw_narrow hp hn (fun n h => by simpa only [hprof] using h) hq⟩
  cases h with
  | @done tag status =>
    have hn := windowsNarrow_lowerCount s.slots[tag.val].window s
    rw [enterDone_eq]
    rw [lowerCount_eq] at hn ⊢
    refine narrowed _ hn rfl fun n x hx => .inl ?_
    simp only [getElem_set_fin] at hx
    split at hx
    · rename_i he; rw [he]; exact (List.mem_filter.mp hx).1
    · exact hx
  | @orphanFreed tag =>
    have hn := windowsNarrow_lowerCount s.slots[tag.val].window (setSlot tag Slot.freed s)
    rw [freeOrphan]
    rw [lowerCount_eq] at hn ⊢
    exact narrowed _ hn rfl fun n x hx => .inl hx
  | @accepted payload tag i free opened =>
    refine narrowed _ (windowsNarrow_acceptSubmit _ _ _ _) rfl fun n x hx => ?_
    have hx' : x ∈ (s.queues.set (s.windows[i.val].target).val
      (s.queues[(s.windows[i.val].target).val] ++ [tag]))[n.val] := hx
    rw [getElem_set_fin] at hx'
    split at hx'
    · rename_i he; subst he; exact .inr (hp.1 i (.inl opened))
    · exact .inl hx'
  | window running link was is =>
    refine ⟨overlapLaw_setWindow ho fun h => ?_, profileLaw_setWindow hp fun h => ?_⟩
    · rcases is with h' | h' <;> rw [h'] at h <;> cases h
    · rcases is with h' | h' <;> rw [h'] at h <;> rcases h with h | h <;> cases h
  | windowOpened running link was set apart =>
    exact ⟨overlapLaw_setWindow ho fun _ j hj hopen => overlapsOpen_false apart hj hopen,
      profileLaw_setWindow hp fun _ => set⟩
  | @windowClosed i was =>
    refine ⟨overlapLaw_setWindow ho fun h => ?_, profileLaw_setWindow hp fun _ => hp.1 i (.inl was)⟩
    simp only [closeState] at h
    split at h <;> cases h
  | profile =>
    rw [takeProfile_frame]
    exact ⟨ho, fun i hi => profile_kept_by_set _ _ _ (hp.1 i hi),
      fun n tag hn => profile_kept_by_set _ _ _ (hp.2 n tag hn)⟩
  | linkReset =>
    have hn := windowsNarrow_linkReset s
    rw [linkReset_frame] at hn ⊢
    exact narrowed _ hn rfl fun n x hx => by simp at hx
  | image loading good =>
    exact ⟨overlapLaw_applyImage (hl.2 loading).2 good,
      profileLaw_applyImage hp (hl.2 loading).2 good⟩
  | _ => exact ⟨ho, hp⟩

theorem windowLaws_coldState (s : State) : WindowLaws (coldState s) := by
  refine ⟨loadLaw_coldState s, fun i j _ hi => ?_, fun i hi => ?_, fun n tag hn => ?_⟩
  · rw [coldState_window] at hi; cases hi
  · rw [coldState_window] at hi
    rcases hi with hi | hi <;> cases hi
  · rw [coldState_queue] at hn; cases hn

theorem Move.windowLaws {s t : State} (h : Move s t) (hs : WindowLaws s) : WindowLaws t := by
  have hl := h.loadLaw hs.1
  cases h with
  | change h => exact h.windowLaws hs
  | cold => exact windowLaws_coldState s
  | _ => exact ⟨hl, hs.2⟩

/-- Settles O57: each move keeps the three laws. -/
theorem stepsKeepWindowsApart : Obligations.StepsKeepWindowsApart := by
  intro s t hl ho hp hstep
  exact step_keeps (fun _ _ h => h.windowLaws) (fun _ _ _ h => h) hstep
    (show WindowLaws s from ⟨hl, ho, hp⟩)

/-! ## The state after reset -/

/-- Settles O53: a reset part is in a cold reset, which meets each law. -/
theorem resetMeetsTheLaws : Obligations.ResetMeetsTheLaws := by
  have hcold : coldState State.reset = State.reset := by
    have hfilters : (Vector.replicate 8 true).map freshFilter = Vector.replicate 8 .high :=
      Vector.map_replicate
    show ({ State.reset with filters := (Vector.replicate 8 true).map freshFilter } : State) = _
    rw [hfilters]
    rfl
  rw [Obligations.ResetMeetsTheLaws, ← hcold]
  obtain ⟨hsettled, halert⟩ := settled_coldState State.reset
  obtain ⟨hevents, hready⟩ := eventLaws_coldState State.reset
  obtain ⟨hload, hover, hprof⟩ := windowLaws_coldState State.reset
  obtain ⟨hqueues, hheads⟩ := queueLaws_coldState State.reset
  have hdeliv := deliveryLaw_coldState State.reset
  obtain ⟨hdisc, hprog⟩ := discardsAndProgress_coldState State.reset
  exact ⟨hsettled, halert, bounded_coldState _, laneLaw_coldState _, hevents, hready, hload, hover,
    hprof, countLaw_coldState _, hqueues, hdeliv, hdisc, hprog, rfl, hheads⟩

end Sys2Proof.Machine
end

section
/-! PROOFS. Arbitration: which head is granted, what the grant does to it, and the accesses that it puts
on the lane; and the end of a cold reset. -/

namespace Sys2Proof.Machine

/-! ## Offers -/

/-- The head of a target queue is no offer unless it is QUEUED (R74). -/
theorem eligibleHead_none {t : Target} {s : State}
    (h : ∀ (x : Tag) (more : List Tag), s.queues[t.val] = x :: more →
      s.slots[x.val].state ≠ .queued) : eligibleHead t s = none := by
  unfold eligibleHead
  split
  · rfl
  · rename_i x more hq
    exact if_neg (h x more hq)

theorem eligibleHead_head {t : Target} {s : State} {tag : Tag} {rest : List Tag}
    (hq : s.queues[t.val] = tag :: rest) (hqueued : s.slots[tag.val].state = .queued) :
    eligibleHead t s = some tag := by
  simp [eligibleHead, hq, hqueued]

/-- Away from select 0 of L0, or with no boot read waiting, the offer is the queue's head (R83). -/
theorem offerAt_queue {l : LaneIx} {sel : Fin 2} {s : State}
    (h : (l ≠ 0 ∨ sel ≠ 0) ∨ s.bootRead = none) :
    offerAt l sel s = (eligibleHead (targetAt l sel) s).map .head := by
  unfold offerAt
  by_cases h0 : l = 0 ∧ sel = 0
  · obtain ⟨hl, hsel⟩ := h0
    have hb : s.bootRead = none := by
      rcases h with (h | h) | h
      · exact absurd hl h
      · exact absurd hsel h
      · exact h
    simp [hl, hsel, hb]
  · simp [h0]

/-- The offer is picked that stands alone, or that the pointer names (R79). -/
theorem pickOffer_eq {l : LaneIx} {sel : Fin 2} {o : Offer} {s : State}
    (ho : offerAt l sel s = some o)
    (halone : s.lanes[l.val].pointer = sel ∨ offerAt l (otherSelect sel) s = none) :
    pickOffer l s = some (sel, o) := by
  unfold pickOffer
  have hsel : sel = 0 ∨ sel = 1 := by omega
  rcases hsel with rfl | rfl
  · rw [ho]
    rcases halone with hp | hn
    · cases offerAt l 1 s <;> simp [hp]
    · rw [show offerAt l 1 s = none from hn]
  · rw [ho]
    rcases halone with hp | hn
    · cases offerAt l 0 s <;> simp [hp]
    · rw [show offerAt l 0 s = none from hn]

theorem pickOffer_none {l : LaneIx} {s : State} (h : ∀ sel : Fin 2, offerAt l sel s = none) :
    pickOffer l s = none := by
  rw [pickOffer, h 0, h 1]

/-! ## Grants -/

theorem arbitrateFor_not_idle {n : Nat} {l : LaneIx} {s : State}
    (h : s.lanes[l.val].state ≠ .idle) : arbitrateFor n l s = s := by
  cases n with
  | zero => rfl
  | succ n => rw [arbitrateFor, if_neg h]

section Grant
variable {l : LaneIx} {sel : Fin 2} {o : Offer} {s : State}

theorem arbitrateFor_grant (n : Nat) (hidle : s.lanes[l.val].state = .idle)
    (hpick : pickOffer l s = some (sel, o)) (hlk : s.lk[l.val] = true) :
    arbitrateFor (n + 1) l s = arbitrateFor n l (giveGrant l sel o s) := by
  simp only [arbitrateFor, hidle, hpick, hlk, if_true]

/-- A grant that puts an access on the lane ends the arbitration (R81). -/
theorem arbitrate_grant (hidle : s.lanes[l.val].state = .idle)
    (hpick : pickOffer l s = some (sel, o)) (hlk : s.lk[l.val] = true)
    (hbusy : (giveGrant l sel o s).lanes[l.val].state ≠ .idle) :
    arbitrate l s = giveGrant l sel o s := by
  rw [arbitrate, grantBound, arbitrateFor_grant 32 hidle hpick hlk, arbitrateFor_not_idle hbusy]

/-- LKn asserted at the grant faults the lane (R80). -/
theorem arbitrate_fault (hidle : s.lanes[l.val].state = .idle)
    (hpick : pickOffer l s = some (sel, o)) (hlk : s.lk[l.val] = false) :
    arbitrate l s = faultAtGrant l o s := by
  simp [arbitrate, grantBound, arbitrateFor, hidle, hpick, hlk]

end Grant

/-- A grant has moved the lane's pointer to the other select (R79). -/
def pointed (l : LaneIx) (sel : Fin 2) (s : State) : State :=
  setLane l { s.lanes[l.val] with pointer := otherSelect sel } s

theorem laneBusy_state (l : LaneIx) (a : Access) (s : State) :
    (laneBusy l a s).lanes[l.val].state ≠ .idle := by
  simp [laneBusy]

/-- The grant of a boot read (R83). -/
theorem giveGrant_boot (l : LaneIx) (sel : Fin 2) (r : BootRead) (s : State) :
    giveGrant l sel (.boot r) s = { s with
      lanes := s.lanes.set l.val
        { state := .busy, pointer := otherSelect sel, access := some (bootAccess r) } } := by
  simp [giveGrant, laneBusy, setLane]

/-- A head that starts its data access (R55). -/
theorem startData_pointer (l : LaneIx) (sel : Fin 2) (tag : Tag) (p : Profile) (s : State) :
    startData l sel tag p (pointed l sel s) =
      { s with
        slots := s.slots.set tag.val { s.slots[tag.val] with state := .active, phase := .data }
        lanes := s.lanes.set l.val
          { state := .busy, pointer := otherSelect sel
            access := some (dataAccess sel tag p s.slots[tag.val]) } } := by
  simp [startData, laneBusy, setLane, setSlot, pointed]

/-- A head that starts its status poll (R55). -/
theorem startPoll_pointer (l : LaneIx) (sel : Fin 2) (tag : Tag) (p : Profile) (s : State) :
    startPoll l sel tag p (pointed l sel s) =
      { s with
        slots := s.slots.set tag.val { s.slots[tag.val] with state := .active }
        lanes := s.lanes.set l.val
          { state := .busy, pointer := otherSelect sel
            access := some (pollAccess sel tag p) } } := by
  simp [startPoll, laneBusy, setLane, setSlot, pointed]

/-- A grant to a head acts on it under its target's profile (R55). -/
theorem giveGrant_head {l : LaneIx} {sel : Fin 2} {tag : Tag} {p : Profile} {s : State}
    (hp : s.profiles[(targetAt l sel).val] = some p) :
    giveGrant l sel (.head tag) s = actOnGrant l sel tag p (pointed l sel s) := by
  simp [giveGrant, pointed, hp]

section Head
variable {l : LaneIx} {sel : Fin 2} {tag : Tag} {p : Profile} {s : State}

theorem actOnGrant_data (h : s.slots[tag.val].phase = .data ∨ (s.slots[tag.val].phase = .precheck ∧
      (p.readyMethod = .none ∨
        (p.readyMethod = .readyLine ∧ s.rdy[(targetAt l sel).val] = true)))) :
    actOnGrant l sel tag p s = startData l sel tag p s := by
  unfold actOnGrant
  rcases h with h | ⟨h, hr | ⟨hr, hrdy⟩⟩
  · simp [h]
  · simp [h, hr]
  · simp [h, hr, hrdy]

theorem actOnGrant_poll (h : s.slots[tag.val].phase ≠ .data) (hr : p.readyMethod = .statusPoll) :
    actOnGrant l sel tag p s = startPoll l sel tag p s := by
  unfold actOnGrant
  cases hp : s.slots[tag.val].phase <;> simp [hp, hr] at h ⊢

theorem actOnGrant_busy (h : s.slots[tag.val].phase ≠ .data) (hr : p.readyMethod = .readyLine)
    (hrdy : s.rdy[(targetAt l sel).val] = false) :
    actOnGrant l sel tag p s = busyVerdict tag p s := by
  unfold actOnGrant
  cases hp : s.slots[tag.val].phase <;> simp [hp, hr, hrdy] at h ⊢

theorem actOnGrant_success (h : s.slots[tag.val].phase = .postcheck)
    (hr : p.readyMethod = .none ∨
      (p.readyMethod = .readyLine ∧ s.rdy[(targetAt l sel).val] = true)) :
    actOnGrant l sel tag p s = enterDone tag .success s := by
  unfold actOnGrant
  rcases hr with hr | ⟨hr, hrdy⟩
  · simp [h, hr]
  · simp [h, hr, hrdy]

end Head

/-! ## What an access puts on the lane -/

/-- The address bytes, the most significant first (R34). -/
theorem addressBytes_succ (count address : Nat) :
    addressBytes (count + 1) address =
      byteOf (address / 256 ^ count) :: addressBytes count address := by
  simp only [addressBytes, List.range_succ_eq_map, List.map_cons, List.map_map]
  congr 1
  refine List.map_congr_left fun j hj => ?_
  have hj' := List.mem_range.mp hj
  simp only [Function.comp]
  congr 3
  omega

/-- The address bytes, read most significant first, are the address. -/
theorem foldl_addressBytes (count address value : Nat) :
    (addressBytes count address).foldl (fun value b => 256 * value + b.toNat) value =
      value * 256 ^ count + address % 256 ^ count := by
  induction count generalizing value with
  | zero => simp [addressBytes, Nat.mod_one]
  | succ count ih =>
    have hb : (byteOf (address / 256 ^ count)).toNat = address / 256 ^ count % 256 := by
      simp [byteOf]
    rw [addressBytes_succ, List.foldl_cons, ih, hb, Nat.mod_pow_succ, Nat.pow_succ]
    ring

/-! ## Grants act on heads -/

/-- The head at the other select is no offer. -/
theorem offerAt_other_none {l : LaneIx} {sel : Fin 2} {s : State}
    (hb : (l ≠ 0 ∨ sel ≠ 0) ∨ s.bootRead = none)
    (h : ∀ (x : Tag) (more : List Tag), s.queues[(targetAt l sel).val] = x :: more →
      s.slots[x.val].state ≠ .queued) : offerAt l sel s = none := by
  rw [offerAt_queue hb, eligibleHead_none h, Option.map_none]

/-- The pick of a boot read (R83). -/
theorem pickOffer_boot {r : BootRead} {s : State} (hr : s.bootRead = some r)
    (halone : s.lanes[0].pointer = 0 ∨ ∀ (x : Tag) (more : List Tag),
      s.queues[1] = x :: more → s.slots[x.val].state ≠ .queued) :
    pickOffer 0 s = some (0, .boot r) :=
  pickOffer_eq (by simp [offerAt, hr]) (halone.imp id fun h =>
    offerAt_other_none (.inl (.inr (by decide))) h)

/-- The grant of a boot read with LK0 released (R83). -/
theorem arbitrate_boot {r : BootRead} {s : State} (hr : s.bootRead = some r)
    (hidle : s.lanes[0].state = .idle)
    (halone : s.lanes[0].pointer = 0 ∨ ∀ (x : Tag) (more : List Tag),
      s.queues[1] = x :: more → s.slots[x.val].state ≠ .queued)
    (hlk : s.lk[0] = true) :
    arbitrate 0 s = { s with
      lanes := s.lanes.set 0
        { state := .busy, pointer := 1, access := some (bootAccess r) } } := by
  have hgrant := giveGrant_boot 0 0 r s
  rw [arbitrate_grant (l := 0) hidle (pickOffer_boot hr halone) hlk (by rw [hgrant]; simp), hgrant]
  rfl

/-- The grant of a boot read with LK0 asserted ends the load (R80, R83, R183). -/
theorem arbitrate_boot_fault {r : BootRead} {s : State} (hr : s.bootRead = some r)
    (hidle : s.lanes[0].state = .idle)
    (halone : s.lanes[0].pointer = 0 ∨ ∀ (x : Tag) (more : List Tag),
      s.queues[1] = x :: more → s.slots[x.val].state ≠ .queued)
    (hlk : s.lk[0] = false) :
    arbitrate 0 s =
      { occur 15 (BitVec.ofNat 32 (10 + 256 * r.address)) (occur 10 255
          { s with lanes := s.lanes.set 0 { s.lanes[0] with state := .faulted } }) with
        loadOutcome := .failed, failureCode := 10, loadPhase := none, loadBuffer := []
        bootRead := none, link := .closed, cache := none } := by
  rw [arbitrate_fault (l := 0) hidle (pickOffer_boot hr halone) hlk]
  simp only [faultAtGrant, bootReadFaults, loadFail, failureDetail, occur_bootRead, setLane_bootRead,
    hr, Option.map_some, Option.getD_some]
  rfl

section HeadGrant
variable {l : LaneIx} {sel : Fin 2} {tag : Tag} {rest : List Tag} {p : Profile} {s : State}

/-- The pick of a queue's head (R74, R79). -/
theorem pickOffer_queue (hb : l ≠ 0 ∨ s.bootRead = none)
    (hq : s.queues[(targetAt l sel).val] = tag :: rest)
    (hqueued : s.slots[tag.val].state = .queued)
    (halone : s.lanes[l.val].pointer = sel ∨ ∀ (x : Tag) (more : List Tag),
      s.queues[(targetAt l (otherSelect sel)).val] = x :: more → s.slots[x.val].state ≠ .queued) :
    pickOffer l s = some (sel, .head tag) :=
  pickOffer_eq (by rw [offerAt_queue (hb.imp .inl id), eligibleHead_head hq hqueued, Option.map_some])
    (halone.imp id (offerAt_other_none (hb.imp .inl id)))

theorem arbitrate_head_data (hidle : s.lanes[l.val].state = .idle)
    (hpick : pickOffer l s = some (sel, .head tag)) (hlk : s.lk[l.val] = true)
    (hp : s.profiles[(targetAt l sel).val] = some p)
    (h : s.slots[tag.val].phase = .data ∨ (s.slots[tag.val].phase = .precheck ∧
      (p.readyMethod = .none ∨
        (p.readyMethod = .readyLine ∧ s.rdy[(targetAt l sel).val] = true)))) :
    arbitrate l s = { s with
      slots := s.slots.set tag.val { s.slots[tag.val] with state := .active, phase := .data }
      lanes := s.lanes.set l.val
        { state := .busy, pointer := otherSelect sel
          access := some (dataAccess sel tag p s.slots[tag.val]) } } := by
  have hgrant : giveGrant l sel (.head tag) s = _ :=
    (giveGrant_head hp).trans ((actOnGrant_data (s := pointed l sel s) h).trans (startData_pointer l sel tag p s))
  rw [arbitrate_grant hidle hpick hlk (by rw [hgrant]; simp), hgrant]

theorem arbitrate_head_poll (hidle : s.lanes[l.val].state = .idle)
    (hpick : pickOffer l s = some (sel, .head tag)) (hlk : s.lk[l.val] = true)
    (hp : s.profiles[(targetAt l sel).val] = some p)
    (h : s.slots[tag.val].phase ≠ .data) (hr : p.readyMethod = .statusPoll) :
    arbitrate l s = { s with
      slots := s.slots.set tag.val { s.slots[tag.val] with state := .active }
      lanes := s.lanes.set l.val
        { state := .busy, pointer := otherSelect sel
          access := some (pollAccess sel tag p) } } := by
  have hgrant : giveGrant l sel (.head tag) s = _ :=
    (giveGrant_head hp).trans ((actOnGrant_poll (s := pointed l sel s) h hr).trans (startPoll_pointer l sel tag p s))
  rw [arbitrate_grant hidle hpick hlk (by rw [hgrant]; simp), hgrant]

end HeadGrant

/-- Settles O42: the pick, then what the grant does; the accesses phase by phase; the address bytes. -/
theorem grantActsOnTheHead : Obligations.GrantActsOnTheHead := by
  refine ⟨fun l s h => arbitrate_not_idle h, fun r s hr hidle halone =>
    ⟨arbitrate_boot hr hidle halone, arbitrate_boot_fault hr hidle halone⟩, fun l s hb =>
    ⟨fun h => arbitrate_no_offer (pickOffer_none fun sel =>
      offerAt_other_none (hb.imp .inl id) (h sel)),
      fun sel tag rest hidle hq hqueued halone => ?_⟩, fun sel tag p sl => ?_,
    fun count address hlt => ⟨by simp [addressBytes], ?_⟩⟩
  · have hpick := pickOffer_queue hb hq hqueued halone
    exact ⟨fun hlk => arbitrate_fault hidle hpick hlk, fun p hlk hp =>
      ⟨arbitrate_head_data hidle hpick hlk hp, arbitrate_head_poll hidle hpick hlk hp⟩⟩
  · refine ⟨fun h => ?_, fun h => ?_, fun h => ?_⟩ <;> simp only [dataAccess, h] <;> rfl
  · rw [foldl_addressBytes, Nat.zero_mul, Nat.zero_add, Nat.mod_eq_of_lt hlt]

/-! ## A grant without an access -/

/-- The slots in QUEUED. -/
def queuedCount (s : State) : Nat := s.slots.toList.countP fun sl => sl.state == .queued

theorem queuedCount_le (s : State) : queuedCount s ≤ 32 :=
  List.countP_le_length.trans (by simp)

/-- Every tag in a target queue is of a SET target (R27). -/
def QueuesProfiled (s : State) : Prop :=
  ∀ (t : Target) (tag : Tag), tag ∈ s.queues[t.val] → (s.profiles[t.val]).isSome = true

/-- One slot leaves QUEUED. -/
theorem queuedCount_falls {s t : State} {tag : Tag} {sl : Slot}
    (hslots : t.slots = s.slots.set tag.val sl) (hwas : s.slots[tag.val].state = .queued)
    (his : sl.state ≠ .queued) : queuedCount t < queuedCount s := by
  have h : queuedCount t + _ = queuedCount s + _ := countP_set_slot (fun x => x.state == .queued) hslots
  simp only [hwas, beq_self_eq_true, if_true, beq_eq_false_iff_ne.mpr his, if_false,
    Bool.false_eq_true] at h
  omega

/-- A head that ends leaves QUEUED; queues lose tags, profiles stay. -/
theorem granted_enterDone {s u : State} {tag : Tag} (status : CompStatus)
    (hs : QueuesProfiled s) {sl : Slot} (hslots : u.slots = s.slots.set tag.val sl)
    (hqueues : u.queues = s.queues) (hprofiles : u.profiles = s.profiles)
    (hwas : s.slots[tag.val].state = .queued) :
    queuedCount (enterDone tag status u) < queuedCount s ∧
      QueuesProfiled (enterDone tag status u) := by
  rw [enterDone_eq, lowerCount_eq]
  refine ⟨queuedCount_falls (tag := tag) (sl := u.slots[tag.val].finished status u.holdTime)
    (by simp [hslots]) hwas (by simp [Slot.finished]), fun t x hx => ?_⟩
  simp only [getElem_set_fin, hqueues, hprofiles] at hx ⊢
  split at hx
  · rename_i he; subst he; exact hs _ x (List.mem_filter.mp hx).1
  · exact hs t x hx

/-- After a grant that leaves the lane IDLE one slot fewer is QUEUED. -/
theorem giveGrant_idle {l : LaneIx} {sel : Fin 2} {o : Offer} {s : State} (hs : QueuesProfiled s)
    (hpick : pickOffer l s = some (sel, o))
    (hidle : (giveGrant l sel o s).lanes[l.val].state = .idle) :
    queuedCount (giveGrant l sel o s) < queuedCount s ∧ QueuesProfiled (giveGrant l sel o s) := by
  cases o with
  | boot r => rw [giveGrant_boot] at hidle; simp at hidle
  | head tag =>
    obtain ⟨hqueued, rest, hhead⟩ := pickOffer_head hpick
    obtain ⟨p, hp⟩ := Option.isSome_iff_exists.mp
      (hs (targetAt l sel) tag (by rw [hhead]; exact List.mem_cons_self))
    rw [giveGrant_head hp] at hidle ⊢
    generalize hu : pointed l sel s = u at hidle ⊢
    have hslots : u.slots = s.slots.set tag.val s.slots[tag.val] := by subst hu; simp [pointed]
    have hqueues : u.queues = s.queues := by subst hu; rfl
    have hprofiles : u.profiles = s.profiles := by subst hu; rfl
    rcases actOnGrant_cases l sel tag p u with h | h | h | h <;> rw [h] at hidle ⊢
    · exact absurd hidle (laneBusy_state l _ _)
    · exact absurd hidle (laneBusy_state l _ _)
    · unfold busyVerdict
      split
      · exact granted_enterDone .timeout hs (by rw [setSlot_slots, hslots, Vector.set_set])
          hqueues hprofiles hqueued
      · refine ⟨queuedCount_falls (tag := tag) (by rw [setSlot_slots, hslots, Vector.set_set])
          hqueued (by simp), fun t x hx => ?_⟩
        simp only [setSlot_queues, setSlot_profiles, hqueues, hprofiles] at hx ⊢
        exact hs t x hx
    · exact granted_enterDone .success hs hslots hqueues hprofiles hqueued

theorem arbitrateFor_succ (n : Nat) (l : LaneIx) (s : State) :
    arbitrateFor (n + 1) l s =
      if s.lanes[l.val].state = .idle then
        match pickOffer l s with
        | none => s
        | some (sel, o) =>
          if s.lk[l.val] then arbitrateFor n l (giveGrant l sel o s) else faultAtGrant l o s
      else s := rfl

/-- Once the grants allowed are more than the slots QUEUED, one more changes nothing (log 11). -/
theorem arbitrateFor_enough {l : LaneIx} (n : Nat) {s : State} (hs : QueuesProfiled s)
    (hn : queuedCount s < n) : arbitrateFor (n + 1) l s = arbitrateFor n l s := by
  induction n generalizing s with
  | zero => exact absurd hn (Nat.not_lt_zero _)
  | succ n ih =>
    rw [arbitrateFor_succ (n + 1), arbitrateFor_succ n]
    split
    · split
      · rfl
      · rename_i sel o hpick
        split
        · by_cases hidle : (giveGrant l sel o s).lanes[l.val].state = .idle
          · obtain ⟨hfewer, hs'⟩ := giveGrant_idle hs hpick hidle
            exact ih hs' (by omega)
          · rw [arbitrateFor_not_idle hidle, arbitrateFor_not_idle hidle]
        · rfl
    · rfl

/-- A grant without an access, after which the IDLE lane arbitrates again (R78). -/
theorem arbitrate_again {l : LaneIx} {sel : Fin 2} {o : Offer} {s : State}
    (hs : QueuesProfiled s) (hidle : s.lanes[l.val].state = .idle)
    (hpick : pickOffer l s = some (sel, o)) (hlk : s.lk[l.val] = true) :
    arbitrate l s = arbitrate l (giveGrant l sel o s) := by
  rw [arbitrate, arbitrate, grantBound, arbitrateFor_grant 32 hidle hpick hlk]
  by_cases hidle' : (giveGrant l sel o s).lanes[l.val].state = .idle
  · obtain ⟨hfewer, hs'⟩ := giveGrant_idle hs hpick hidle'
    exact (arbitrateFor_enough 32 hs' (lt_of_lt_of_le hfewer (queuedCount_le s))).symm
  · rw [arbitrateFor_not_idle hidle', arbitrateFor_not_idle hidle']

/-- Settles O43: the grant is given and acted on; the bound of grants is never reached. -/
theorem sampleGrantArbitratesAgain : Obligations.SampleGrantArbitratesAgain := by
  intro l sel tag rest p s hlaw hboot hidle hlk hq hqueued halone hp
  have hpick := pickOffer_queue (.inr hboot) hq hqueued halone
  have hagain := (arbitrate_again hlaw.2 hidle hpick hlk).trans
    (congrArg (arbitrate l) (giveGrant_head hp))
  refine ⟨fun hphase hready hrdy => ⟨fun hle => ?_, fun hlt => ?_⟩, fun hphase hready => ?_⟩
  · rw [hagain, actOnGrant_busy (s := pointed l sel s) hphase hready hrdy, busyVerdict]
    exact congrArg (arbitrate l) (if_neg (Nat.not_lt.mpr hle))
  · rw [hagain, actOnGrant_busy (s := pointed l sel s) hphase hready hrdy, busyVerdict]
    exact congrArg (arbitrate l) (if_pos hlt)
  · rw [hagain, actOnGrant_success (s := pointed l sel s) hphase hready]
    rfl

/-! ## The end of a cold reset -/

/-- Settles O5: with CFGSRC 1 the header read is the boot read that L0 arbitrates. -/
theorem coldResetEndSamplesTheStraps : Obligations.ColdResetEndSamplesTheStraps := by
  intro rate lk s hheld
  refine ⟨if_pos hheld, fun hlane hqueue hlk => ?_, fun hlane hqueue hlk => ?_⟩
  · refine (if_pos hheld).trans (congrArg (fun u => Host.Outcome.next (afterEvent u)) ?_)
    refine (arbitrate_boot (r := { address := 0, count := 5 }) rfl ?_ (.inl ?_) hlk).trans ?_
    · exact congrArg Lane.state hlane
    · exact congrArg Lane.pointer hlane
    · rfl
  · refine (if_pos hheld).trans (congrArg (fun u => Host.Outcome.next (afterEvent u)) ?_)
    refine (arbitrate_boot_fault (r := { address := 0, count := 5 }) rfl ?_ (.inl ?_) hlk).trans ?_
    · exact congrArg Lane.state hlane
    · exact congrArg Lane.pointer hlane
    · simp only [startLoad, hlane]
      rfl

end Sys2Proof.Machine
end

section
/-! PROOFS. The link: replies, the reply cache, requests refused before their block, requests that wait,
the session, and the transmitter's choice once a frame has been sent. -/

namespace Sys2Proof.Machine

/-! ## Formed replies -/

/-- The cache takes every reply but that of an executed CLOSE (R152, R155). -/
theorem cache_of_reply {α : Type} (f : Frame) (r : Reply) (new old : α) :
    (if entersCache f r then new else old) =
      if f.kind = 0x03 ∧ r.status = .ok then old else new := by
  unfold entersCache Request.code
  by_cases hk : f.kind = 0x03 <;> by_cases hs : r.status = .ok <;> simp [hk, hs]

/-- A free transmitter takes the reply at the head of its queue (R111, R113). -/
theorem choose_reply {s : State} {f : Frame} {rest : List Frame} (hfree : s.sending = none)
    (hr : s.replies = f :: rest) : choose s = chooseReply f rest s := by
  simp [choose, hfree, hr]

/-- A sending transmitter chooses nothing (R110). -/
theorem choose_sending {s : State} (h : s.sending ≠ none) : choose s = s :=
  choose_settled fun hn => absurd hn h

/-- Settles O12. -/
theorem answeredRequestLeaves : Obligations.AnsweredRequestLeaves := by
  intro f r s
  refine ⟨fun hfree hempty => ?_, fun hsending => ?_, fun k hk => ?_, fun hk => ?_⟩
  · have hreplies : s.replies ++ [replyFrame f r] = [replyFrame f r] := by simp [hempty]
    rw [answeredWith, cache_of_reply]
    refine congrArg driveAlert (Eq.trans (choose_reply ?_ hreplies) ?_)
    · exact hfree
    · rw [chooseReply, hempty]
  · rw [answeredWith, cache_of_reply]
    refine congrArg driveAlert (choose_sending ?_)
    exact hsending
  · rw [replyFrame, replyKind, hk, requestOf_code]
    rfl
  · rw [replyFrame, replyKind, hk]
    rfl

/-! ## Frames that arrive -/

/-- A request row is its frame's arrival, with the LKn levels it finds (log 1, log 3). -/
theorem exec_command {r : Request} {seq : Byte} {payload : List Byte} {lk : LkLevels} {s : State}
    (hrun : s.inReset = false) :
    exec (r.command seq payload lk) s =
      deliver (requestFrame r seq payload) { s with lk := r.lkFound lk s.lk } := by
  have hlk : withLk lk s = { s with lk := lk } := if_neg (by simp [hrun])
  have sampled (f : Frame) : deliver f (withLk lk s) = deliver f { s with lk := lk } := by rw [hlk]
  have hresume : execLaneResume seq payload lk lk s =
      deliver (requestFrame .laneResume seq payload) (withLk lk s) := if_pos (.inl rfl)
  cases r with
  | laneResume => exact hresume.trans (sampled _)
  | submit => exact sampled _
  | abort => exact sampled _
  | laneQuery => exact sampled _
  | laneReset => exact sampled _
  | _ => rfl

/-- A frame that arrives at a running part is offered to the inbound buffer (R147, log 1). -/
theorem deliver_running {f : Frame} {s : State} (hrun : s.inReset = false)
    (hp : f.payload.length ≤ 300) :
    deliver f s = .next (afterEvent (offerFrame f s)) := by
  rw [deliver, if_pos (show payloadFits f.payload = true from decide_eq_true hp), whileRunning,
    if_neg (by simp [hrun])]
  rfl

theorem offerFrame_room {f : Frame} {s : State} (h : s.inbound.length < 2) :
    offerFrame f s = { s with inbound := s.inbound ++ [f] } := if_pos h

theorem offerFrame_full {f : Frame} {s : State} (h : 2 ≤ s.inbound.length) :
    offerFrame f s = occur 14 0x04 s := if_neg (Nat.not_lt.mpr h)

/-- A frame that finds an empty buffer and room for a reply is dispatched at once (R148). -/
theorem deliver_dispatch {f : Frame} {s : State} (hrun : s.inReset = false) (hin : s.inbound = [])
    (hroom : s.replies.length < 2) (hts : TransmitterSettled s) (hp : f.payload.length ≤ 300) :
    deliver f s = .next (driveAlert (choose (dispatch f s))) := by
  have hts' : TransmitterSettled { s with inbound := [f] } := hts
  have hs : ({ s with inbound := [] } : State) = s := by rw [← hin]
  have hoff : offerFrame f s = { s with inbound := [f] } := by
    rw [offerFrame_room (by simp [hin]), hin]
    rfl
  have hset : settle { s with inbound := [f] } = choose (dispatch f s) := by
    rw [settle, choose_settled hts']
    show dispatchFor 1 { s with inbound := [f] } = _
    simp only [dispatchFor]
    rw [if_pos (show s.replies.length < replyCapacity from hroom), hs]
  rw [deliver_running hrun hp, afterEvent, hoff, hset]

/-! ## Requests turned away -/

/-- A request that the link state refuses (R153). -/
theorem exec_linkRefused {r : Request} {seq : Byte} {payload : List Byte} {lk : LkLevels}
    {s : State} {st : Status} (h : ReadyFor (requestFrame r seq payload) s)
    (hp : payload.length ≤ 300) (hl : linkRefusal r s.link = some st) :
    exec (r.command seq payload lk) s = .next (answeredWith (requestFrame r seq payload)
      (Reply.refusal st) { s with lk := r.lkFound lk s.lk }) :=
  exec_answered h hp (answer_refused (s := { s with lk := r.lkFound lk s.lk }) hl)

/-- A request of another length than its kind's, where the link state does not refuse it (R149). -/
theorem exec_lengthRefused {r : Request} {seq : Byte} {payload : List Byte} {lk : LkLevels}
    {s : State} {n : Nat} (h : ReadyFor (requestFrame r seq payload) s)
    (hp : payload.length ≤ 300) (hl : linkRefusal r s.link = none)
    (hn : r.payloadLength = some n) (hne : payload.length ≠ n) :
    exec (r.command seq payload lk) s = .next (answeredWith (requestFrame r seq payload)
      (Reply.refusal .badLength) { s with lk := r.lkFound lk s.lk }) :=
  exec_answered h hp (answer_bad_length (s := { s with lk := r.lkFound lk s.lk }) hl
    (by simp [lengthOk, hn, hne]))

/-- In OPEN every request but OPEN reaches its block (R153). -/
theorem linkRefusal_opened {r : Request} (h : r ≠ .openSession) : linkRefusal r .opened = none := by
  cases r <;> simp [linkRefusal] at h ⊢

/-- In CLOSED every request but five is answered NOT_OPEN by the link state, SUBMIT by its block
(R153, R51). -/
theorem exec_closed {r : Request} {seq : Byte} {payload : List Byte} {lk : LkLevels} {s : State}
    (h : ReadyFor (requestFrame r seq payload) s) (hp : payload.length ≤ 300)
    (hlink : s.link = .closed) (hi : r ≠ .identify) (ho : r ≠ .openSession)
    (hc : r ≠ .closeSession) :
    exec (r.command seq payload lk) s = .next (answeredWith (requestFrame r seq payload)
      (Reply.refusal .notOpen) { s with lk := r.lkFound lk s.lk }) := by
  by_cases hsub : r = .submit
  · subst hsub
    refine exec_served h hp (by rw [hlink]; rfl) rfl ?_
    exact if_pos (show s.link ≠ .opened by rw [hlink]; decide)
  · refine exec_linkRefused h hp ?_
    rw [hlink]
    cases r <;> simp [linkRefusal] at hi ho hc hsub ⊢

/-- Settles O13: by the link state first, then by the length. -/
theorem requestRefusedBeforeItsBlock : Obligations.RequestRefusedBeforeItsBlock := by
  intro r seq payload lk s hp hready
  refine ⟨fun hlink => exec_linkRefused hready hp (by rw [hlink]; rfl),
    fun hlink hi ho hc => exec_closed hready hp hlink hi ho hc, fun hlink hr => ?_,
    fun hlink hr => ?_, fun n hadmits hn hne => exec_lengthRefused hready hp ?_ hn hne⟩
  · subst hr
    exact exec_linkRefused (r := .closeSession) hready hp (by rw [hlink]; rfl)
  · subst hr
    exact exec_linkRefused (r := .openSession) hready hp (by rw [hlink]; rfl)
  · rcases hadmits with ⟨hlink, hr⟩ | ⟨hlink, rfl | rfl⟩ <;> rw [hlink]
    · exact linkRefusal_opened hr
    · rfl
    · rfl

/-- Settles O14. -/
theorem unknownKindIsAnswered : Obligations.UnknownKindIsAnswered := by
  intro seq kind payload s hp hkind hready
  have hnone : requestOf kind = none := by
    rw [← Option.not_isSome_iff_eq_none, requestOf_isSome_iff]
    simpa using hkind
  have hne : kind ≠ Request.closeSession.code := by
    rintro rfl
    exact hkind (by decide)
  have hexec : exec (.unknownKind seq kind payload) s =
      deliver { seq := seq, kind := kind, payload := payload } s := if_neg (by simp [hnone])
  rw [hexec, deliver_ready hready (decide_eq_true hp)]
  simp [executed, answer, hnone, replyFrame, replyKind, entersCache, hne, Reply.refusal,
    Reply.payload, Status.code]

/-! ## Replays and requests that wait -/

/-- Settles O15: the frame is dispatched at once, and the dispatch finds the cached reply. -/
theorem cacheReplaysTheReply : Obligations.CacheReplaysTheReply := by
  intro seq kind payload reply s hp hrun hin hroom hts hcache
  have replayed (u : State) (hu : u.cache = s.cache) :
      dispatch { seq := seq, kind := kind, payload := payload } u =
        { u with replies := u.replies ++ [reply] } := by
    simp [dispatch, cachedReply, hu, hcache]
  refine ⟨?_, fun r lk hr => ?_⟩
  · have hexec : exec (.cacheReplay seq kind payload) s =
        deliver { seq := seq, kind := kind, payload := payload } s := rfl
    rw [hexec, deliver_dispatch hrun hin hroom hts hp, replayed s rfl]
  · subst hr
    refine (exec_command hrun).trans (Eq.trans (deliver_dispatch ?_ ?_ ?_ ?_ hp)
      (congrArg (fun u => Host.Outcome.next (driveAlert (choose u))) (replayed _ ?_)))
    exacts [hrun, hin, hroom, hts, rfl]

/-- A settled state has no choice and no dispatch left to make (R110, R148). -/
theorem settle_settled {s : State} (h : Settled s) : settle s = s := by
  obtain ⟨hts, hroom⟩ := h
  rw [settle, choose_settled hts]
  cases s.inbound.length with
  | zero => rfl
  | succ n =>
    unfold dispatchFor
    split
    · rfl
    · next hin => exact if_neg (Nat.not_lt.mpr (hroom (by simp [hin])))

/-- Settles O16: the frame is offered to the inbound buffer, which has room or not. -/
theorem requestWaitsOrOverruns : Obligations.RequestWaitsOrOverruns := by
  intro r seq payload lk s hp hrun
  refine ⟨fun hin hfull hsending => ?_, fun hin => ?_⟩
  · refine (exec_command hrun).trans (Eq.trans (deliver_running ?_ hp) ?_)
    · exact hrun
    · rw [offerFrame_room (s := { s with lk := r.lkFound lk s.lk }) hin, afterEvent]
      refine congrArg (fun u => Host.Outcome.next (driveAlert u)) (settle_settled ?_)
      exact ⟨fun hfree => absurd hfree hsending, fun _ => hfull⟩
  · refine (exec_command hrun).trans (Eq.trans (deliver_running ?_ hp) ?_)
    · exact hrun
    · rw [offerFrame_full (s := { s with lk := r.lkFound lk s.lk }) hin]

/-! ## The session -/

/-- Settles O17. -/
theorem identifyReportsThePart : Obligations.IdentifyReportsThePart := by
  intro seq s hready hlink
  have hl : linkRefusal .identify s.link = none := by
    cases h : s.link <;> simp [h] at hlink ⊢ <;> rfl
  exact exec_served (r := .identify) (lk := s.lk) hready (Nat.zero_le _) hl rfl rfl

/-- The session number goes up by one, from 255 to 1 (R154). -/
theorem nextSession_eq {n : Nat} (h : n ≤ 255) :
    nextSession n = if n = 255 then 1 else n + 1 := by
  unfold nextSession
  exact if_congr ⟨fun h' => le_antisymm h h', fun h' => h'.ge⟩ rfl rfl

/-- Settles O18. -/
theorem openBeginsASession : Obligations.OpenBeginsASession := by
  intro seq hold s hready hlink hsession
  rw [← nextSession_eq hsession]
  exact exec_served (r := .openSession) (lk := s.lk) hready (by simp) (by rw [hlink]; rfl) rfl rfl

/-- Settles O19: the block resets the link, and the reply of an executed CLOSE is not cached. -/
theorem closeResetsTheLink : Obligations.CloseResetsTheLink := by
  intro seq s hready hlink
  have ha : answer (requestFrame .closeSession seq []) s = (linkReset s, Reply.ok) :=
    (answer_served (by rw [hlink]; rfl) rfl).trans rfl
  have hexec := exec_request (r := .closeSession) (lk := s.lk) hready (Nat.zero_le _)
  refine hexec.trans (congrArg (fun u => Host.Outcome.next (driveAlert (choose u))) ?_)
  show executed (requestFrame .closeSession seq []) s = _
  rw [executed, ha, cache_of_reply, linkReset_frame]
  rfl

/-! ## The transmitter's choice once a frame has been sent -/

/-- The state that a sent frame leaves to settle (R110). -/
theorem exec_frameSent {lk : LkLevels} {s : State} (hrun : s.inReset = false) :
    exec (.frameSent lk) s = .next (afterEvent { s with lk := lk, sending := none }) := by
  show whileRunning s { withLk lk s with sending := none } = _
  rw [whileRunning, if_neg (by simp [hrun]), withLk, if_neg (by simp [hrun])]
  rfl

/-- With an unsolicited frame free to be sent, the choice is of one (R111 step 2). -/
theorem choose_unsolicited {s : State} (hfree : s.sending = none) (hr : s.replies = [])
    (hlink : s.link = .opened) (hcredit : 0 < s.credits) : choose s = chooseUnsolicited s := by
  simp [choose, hfree, hr, hlink, hcredit]

/-- A completion alone, or where a notice was served last, is pushed (R112). -/
theorem chooseUnsolicited_push {s : State} {tag : Tag} (ho : offered s = some tag)
    (h : s.notices = [] ∨ s.lastServed = .notice) : chooseUnsolicited s = choosePush tag s := by
  unfold chooseUnsolicited
  rw [ho]
  rcases h with h | h
  · rw [h]
  · rw [h]; cases s.notices <;> rfl

/-- A notice alone, or where a completion was served last, is sent (R112). -/
theorem chooseUnsolicited_notice {s : State} {e : SrcIx} {rest : List SrcIx}
    (hn : s.notices = e :: rest) (h : offered s = none ∨ s.lastServed = .completion) :
    chooseUnsolicited s = chooseNotice e rest s := by
  unfold chooseUnsolicited
  rw [hn]
  rcases h with h | h
  · rw [h]
  · rw [h]; cases offered s <;> rfl

/-- A source after the choice of its notice (R126, R127). -/
theorem delivered_eq (src : Source) :
    src.delivered =
      match src.mode with
      | .onDelivery => { src with state := .idle, count := 0, detail := 0 }
      | .onAck => { src with state := .reported, reported := src.count } := by
  unfold Source.delivered
  cases src.mode <;> rfl

/-- Settles O11: the choice by what waits; a reply chosen makes room for one dispatch. -/
theorem frameSentMakesTheNextChoice : Obligations.FrameSentMakesTheNextChoice := by
  refine ⟨fun lk s hrun hin => ?_, fun f g h r u lk s hrun hr hin hcache ha => ?_⟩
  · have hsent (v : State) (hv : choose { s with lk := lk, sending := none } = v) :
        exec (.frameSent lk) s = .next (driveAlert v) := by
      rw [exec_frameSent hrun, afterEvent,
        settle_no_inbound (s := { s with lk := lk, sending := none }) hin, hv]
    refine ⟨fun f rest hr => hsent _ ?_, fun hr hnone => hsent _ ?_,
      fun tag hr hlink hcredit ho hn => hsent _ ?_, fun e rest hr hlink hcredit hn ho => hsent _ ?_⟩
    · exact choose_reply (s := { s with lk := lk, sending := none }) rfl hr
    · refine choose_settled fun _ => ⟨hr, ?_⟩
      rintro ⟨hlink, hcredit, hwaits⟩
      rcases hnone with h | h | h
      · exact h hlink
      · exact Nat.lt_irrefl 0 (h ▸ hcredit)
      · exact Bool.false_ne_true (h.symm.trans hwaits)
    · exact (choose_unsolicited (s := { s with lk := lk, sending := none }) rfl hr hlink
        hcredit).trans (chooseUnsolicited_push ho hn)
    · refine (choose_unsolicited (s := { s with lk := lk, sending := none }) rfl hr hlink
        hcredit).trans (Eq.trans (chooseUnsolicited_notice hn ho) ?_)
      rw [chooseNotice, delivered_eq]
      rfl
  · have hchosen : choose { s with lk := lk, sending := none } =
        { s with lk := lk, replies := [g], sending := some f.wire } := choose_reply rfl hr
    rw [exec_frameSent hrun, afterEvent, settle, hchosen]
    show Host.Outcome.next (driveAlert (dispatchFor s.inbound.length
      { s with lk := lk, replies := [g], sending := some f.wire })) = _
    have hone : dispatchFor 1 { s with lk := lk, replies := [g], sending := some f.wire } =
        choose (dispatch h { s with
          lk := lk, replies := [g], sending := some f.wire, inbound := [] }) := by
      simp only [dispatchFor, hin]
      exact if_pos (by simp [replyCapacity])
    have hdispatch : dispatch h { s with
        lk := lk, replies := [g], sending := some f.wire, inbound := [] } =
        executed h { s with
          lk := lk, replies := [g], sending := some f.wire, inbound := [] } := by
      rw [dispatch]
      show (match cachedReply h s with
        | some reply => _
        | none => _) = _
      rw [hcache]
    rw [show s.inbound.length = 1 by rw [hin]; rfl]
    refine (congrArg (fun u => Host.Outcome.next (driveAlert u)) hone).trans ?_
    rw [hdispatch, executed, ha]

end Sys2Proof.Machine
end

section
/-! PROOFS. The receiver, the timers, the attention pins, and the occurrences they give. -/

namespace Sys2Proof.Machine

/-! ## Events of a running part -/

theorem whileRunning_running {s u : State} (hrun : s.inReset = false) :
    whileRunning s u = .next (afterEvent u) := if_neg (by simp [hrun])

theorem withLk_running {lk : LkLevels} {s : State} (hrun : s.inReset = false) :
    withLk lk s = { s with lk := lk } := if_neg (by simp [hrun])

/-- A settled part with ALERTn at its condition is left as it is (log 8). -/
theorem afterEvent_settled {s : State} (hs : Settled s) (ha : AlertLaw s) : afterEvent s = s := by
  rw [afterEvent, settle_settled hs, driveAlert, ← ha]

/-! ## A received byte -/

theorem exec_receiveByte {b : Byte} {lk : LkLevels} {s : State} (hrun : s.inReset = false) :
    exec (.receiveByte b lk) s = .next (afterEvent (receive b { s with lk := lk })) := by
  have hexec : exec (.receiveByte b lk) s = whileRunning s (receive b (withLk lk s)) := rfl
  rw [hexec, whileRunning_running hrun, withLk_running hrun]

theorem receive_hunting {b : Byte} {s : State} (h : s.receiver.state = .hunting) :
    receive b s = if b = 0xA9 then { s with receiver := Receiver.synced } else huntDiscard s := by
  rw [receive, h]
  rfl

theorem receive_firstLen {b : Byte} {s : State} (h : s.receiver.state = .length)
    (hl : s.receiver.lenBytes = []) :
    receive b s = { s with
      receiver := { s.receiver with
        lenBytes := [b], sum := s.receiver.sum + b, gapTimer := true } } := by
  simp [receive, h, hl, setReceiver, Receiver.lenTaken]

/-- The second LEN byte is judged with the first (R142). -/
theorem receive_secondLen {first b : Byte} {s : State} (h : s.receiver.state = .length)
    (hl : s.receiver.lenBytes = [first]) :
    receive b s =
      if 2 ≤ first.toNat + 256 * b.toNat ∧ first.toNat + 256 * b.toNat ≤ 302 then
        { s with
          receiver := { s.receiver with
            state := .body, lenBytes := [first, b], sum := s.receiver.sum + b, gapTimer := true } }
      else occur 14 0x02 { s with receiver := Receiver.newHunt } := by
  have hlen : (s.receiver.lenTaken b).len = first.toNat + 256 * b.toNat := by
    simp [Receiver.len, Receiver.lenTaken, hl, u16At, byteAt]
  simp only [receive, h, hl, List.isEmpty_cons, Bool.false_eq_true, if_false, hlen, lenOk,
    Bool.and_eq_true, decide_eq_true_eq]
  refine if_congr Iff.rfl ?_ rfl
  simp [setReceiver, Receiver.lenTaken, hl]

theorem receive_body {first second b : Byte} {s : State} (h : s.receiver.state = .body)
    (hl : s.receiver.lenBytes = [first, second]) :
    receive b s = { s with
      receiver := { s.receiver with
        state := if first.toNat + 256 * second.toNat ≤ s.receiver.body.length + 1 then .check
          else .body
        body := s.receiver.body ++ [b], sum := s.receiver.sum + b, gapTimer := true } } := by
  simp [receive, h, setReceiver, Receiver.bodyTaken, Receiver.len, hl, u16At, byteAt]

theorem receive_check {b : Byte} {s : State} (h : s.receiver.state = .check) :
    receive b s =
      if s.receiver.sum + b = 0 then
        offerFrame s.receiver.frame { s with receiver := Receiver.newHunt }
      else occur 14 0x01 { s with receiver := Receiver.newHunt } := by
  rw [receive, h]
  rfl

/-- The frame a body of SEQ, KIND and payload holds (R143). -/
theorem receiver_frame {r : Receiver} {seq kind : Byte} {payload : List Byte}
    (h : r.body = seq :: kind :: payload) :
    r.frame = { seq := seq, kind := kind, payload := payload } := by
  simp [Receiver.frame, h, byteAt]

/-- Settles O6: one equation for each receiver state. -/
theorem receiverTakesBytes : Obligations.ReceiverTakesBytes := by
  refine ⟨fun b lk s hrun h => ?_, fun b lk s hrun => ?_⟩
  · rw [exec_receiveByte hrun, receive_hunting (s := { s with lk := lk }) h]
    rfl
  · rw [exec_receiveByte hrun]
    refine ⟨fun h hl => ?_, fun first h hl hlow hhigh => ?_, fun first h hl hout => ?_,
      fun first second h hl => ?_, fun seq kind payload h hb hsum hroom => ?_,
      fun h hsum hfull => ?_, fun h hsum => ?_⟩
    · rw [receive_firstLen (s := { s with lk := lk }) h hl]
    · rw [receive_secondLen (s := { s with lk := lk }) h hl, if_pos ⟨hlow, hhigh⟩]
    · rw [receive_secondLen (s := { s with lk := lk }) h hl, if_neg (by omega)]
    · rw [receive_body (s := { s with lk := lk }) h hl]
    · rw [receive_check (s := { s with lk := lk }) h, if_pos hsum, receiver_frame hb]
      exact congrArg (fun u => Host.Outcome.next (afterEvent u)) (offerFrame_room hroom)
    · rw [receive_check (s := { s with lk := lk }) h, if_pos hsum]
      exact congrArg (fun u => Host.Outcome.next (afterEvent u)) (offerFrame_full hfull)
    · rw [receive_check (s := { s with lk := lk }) h, if_neg hsum]

/-! ## The bytes of a frame -/

/-- A state with its receiver at `r` and the LKn levels `lk` found. -/
def State.hearing (s : State) (lk : LkLevels) (r : Receiver) : State :=
  { s with lk := lk, receiver := r }

/-- The receiver once it has taken the body bytes to the last one, which leads to CHECK (R143). -/
def Receiver.bodyFilled (r : Receiver) (bytes : List Byte) : Receiver :=
  { r with
    state := .check, body := r.body ++ bytes, sum := bytes.foldl (· + ·) r.sum, gapTimer := true }

/-- A byte that changes nothing but the receiver leaves the next byte to be received (R140). -/
theorem run_receiveByte {b : Byte} {lk lk' : LkLevels} {rest : List Instr} {r r' : Receiver}
    {s : State} (hrun : s.inReset = false) (hs : Settled s) (ha : AlertLaw s)
    (hb : receive b (s.hearing lk r) = s.hearing lk r') :
    runCommands (.receiveByte b lk :: rest) (s.hearing lk' r) =
      runCommands rest (s.hearing lk r') := by
  have hexec : exec (.receiveByte b lk) (s.hearing lk' r) =
      .next (afterEvent (receive b (s.hearing lk r))) := exec_receiveByte hrun
  have hquiet : afterEvent (s.hearing lk r') = s.hearing lk r' := afterEvent_settled hs ha
  rw [runCommands, hexec, hb, hquiet]

/-- The last body byte leads to CHECK (R143). -/
theorem receive_lastBody {first second b : Byte} {lk : LkLevels} {r : Receiver} {s : State}
    (h : r.state = .body) (hl : r.lenBytes = [first, second])
    (hlast : first.toNat + 256 * second.toNat ≤ r.body.length + 1) :
    receive b (s.hearing lk r) = s.hearing lk (r.bodyFilled [b]) := by
  exact (receive_body (s := s.hearing lk r) h hl).trans (congrArg (fun st => s.hearing lk
    { r with state := st, body := r.body ++ [b], sum := r.sum + b, gapTimer := true })
    (if_pos hlast))

/-- A body byte before the last is stored and summed (R143). -/
theorem receive_nextBody {first second b : Byte} {lk : LkLevels} {r : Receiver} {s : State}
    (h : r.state = .body) (hl : r.lenBytes = [first, second])
    (hmore : r.body.length + 1 < first.toNat + 256 * second.toNat) :
    receive b (s.hearing lk r) =
      s.hearing lk { r with body := r.body ++ [b], sum := r.sum + b, gapTimer := true } := by
  exact (receive_body (s := s.hearing lk r) h hl).trans (congrArg (fun st => s.hearing lk
    { r with state := st, body := r.body ++ [b], sum := r.sum + b, gapTimer := true })
    ((if_neg (Nat.not_le.mpr hmore)).trans h.symm))

/-- The body bytes of a frame fill the receiver's body (R143). -/
theorem run_body {first second : Byte} {lk : LkLevels} {rest : List Instr} {s : State}
    (hrun : s.inReset = false) (hs : Settled s) (ha : AlertLaw s) (bytes : List Byte) :
    ∀ r : Receiver, r.state = .body → r.lenBytes = [first, second] → bytes ≠ [] →
      r.body.length + bytes.length = first.toNat + 256 * second.toNat →
      runCommands (bytes.map (fun b => .receiveByte b lk) ++ rest) (s.hearing lk r) =
        runCommands rest (s.hearing lk (r.bodyFilled bytes)) := by
  induction bytes with
  | nil => exact fun _ _ _ hne => absurd rfl hne
  | cons b bytes ih =>
    intro r h hl _ hlen
    cases bytes with
    | nil => exact run_receiveByte hrun hs ha (receive_lastBody h hl hlen.ge)
    | cons c cs =>
      simp only [List.length_cons] at hlen
      refine (run_receiveByte hrun hs ha (receive_nextBody h hl (by omega))).trans
        (Eq.trans (ih _ ?_ ?_ (List.cons_ne_nil _ _) ?_) ?_)
      · exact h
      · exact hl
      · simp only [List.length_append, List.length_cons, List.length_nil]
        omega
      · simp only [Receiver.bodyFilled, List.append_assoc, List.singleton_append, List.foldl_cons]

/-- The CHECK byte of a good frame, which completes the sum to zero (R143, R147). -/
theorem run_check {b : Byte} {lk : LkLevels} {r : Receiver} {f : Frame} {s : State}
    (hrun : s.inReset = false) (h : r.state = .check)
    (hb : r.body = f.seq :: f.kind :: f.payload) (hsum : r.sum + b = 0) :
    runCommands ([b].map fun b => .receiveByte b lk) (s.hearing lk r) =
      .next (afterEvent (offerFrame f (s.hearing lk Receiver.newHunt))) := by
  have hoffer : receive b (s.hearing lk r) = offerFrame f (s.hearing lk Receiver.newHunt) :=
    (receive_check (s := s.hearing lk r) h).trans
      ((if_pos hsum).trans (by rw [show (s.hearing lk r).receiver.frame = f from receiver_frame hb]; rfl))
  have hexec : exec (.receiveByte b lk) (s.hearing lk r) =
      .next (afterEvent (receive b (s.hearing lk r))) := exec_receiveByte hrun
  rw [List.map_singleton, runCommands, hexec, hoffer]
  rfl

/-- Settles O7: SYNC, the two LEN bytes, the body and CHECK, which makes the sum zero. -/
theorem wireBytesOfferTheFrame : Obligations.WireBytesOfferTheFrame := by
  intro f lk s hp hrun h hs ha
  have hlen : (byteOf f.len).toNat + 256 * (byteOf (f.len / 256)).toNat = f.payload.length + 2 :=
    u16At_le16 f.len (by unfold Frame.len; omega) []
  have hwire : f.wire = 0xA9 :: byteOf f.len :: byteOf (f.len / 256) ::
      ((f.seq :: f.kind :: f.payload) ++ [-(sum8 f.summed)]) := by
    simp [Frame.wire, Frame.summed, le16, syncByte]
  have hsum : (f.seq :: f.kind :: f.payload).foldl (· + ·)
      (0 + byteOf f.len + byteOf (f.len / 256)) = sum8 f.summed := by
    simp [sum8, Frame.summed, le16]
  have hsync : receive 0xA9 (s.hearing lk s.receiver) = s.hearing lk Receiver.synced :=
    (receive_hunting (s := s.hearing lk s.receiver) h).trans (if_pos rfl)
  have hfirst := receive_firstLen (b := byteOf f.len) (s := s.hearing lk Receiver.synced) rfl rfl
  have hsecond := (receive_secondLen (first := byteOf f.len) (b := byteOf (f.len / 256))
    (s := s.hearing lk { Receiver.synced with lenBytes := [byteOf f.len], sum := 0 + byteOf f.len })
    rfl rfl).trans (if_pos ⟨by rw [hlen]; omega, by rw [hlen]; omega⟩)
  rw [hwire, List.map_cons, List.map_cons, List.map_cons, List.map_append]
  refine (run_receiveByte (lk' := s.lk) hrun hs ha hsync).trans ?_
  refine (run_receiveByte hrun hs ha hfirst).trans ?_
  refine (run_receiveByte hrun hs ha hsecond).trans ?_
  refine (run_body hrun hs ha _ _ rfl rfl (List.cons_ne_nil _ _) ?_).trans ?_
  · rw [hlen]
    simp [State.hearing, Receiver.synced, Receiver.newHunt]
  · refine run_check hrun rfl rfl (?_ : _ + _ = _)
    exact (congrArg (· + -(sum8 f.summed)) hsum).trans (BitVec.add_right_neg _)

/-! ## The timers and the line -/

/-- A byte discarded by a hunt (R141). -/
theorem huntDiscard_eq (s : State) :
    huntDiscard s =
      if s.receiver.huntFlag = true then s
      else occur 14 0x10 { s with receiver := { s.receiver with huntFlag := true } } := rfl

/-- Settles O8. -/
theorem receiverTimersAndLine : Obligations.ReceiverTimersAndLine := by
  intro s hrun
  have hexec (u : State) := whileRunning_running (u := u) hrun
  refine ⟨hexec _, fun hgap => ?_, fun h => ?_, fun h hline => ?_, fun h hline => ?_⟩
  · refine (hexec (gapExpires s)).trans ?_
    rw [gapExpires, if_pos hgap]
    rfl
  · refine (hexec (lineFalls s)).trans ?_
    rw [lineFalls, if_neg h]
    rfl
  · refine (hexec (lineRises s)).trans ?_
    rw [lineRises, if_pos h, if_neg (by simp [hline])]
    rfl
  · refine (hexec (lineRises s)).trans ?_
    rw [lineRises, if_pos h, if_pos hline, huntDiscard_eq]
    by_cases hflag : s.receiver.huntFlag = true
    · simp [setReceiver, hflag]
    · simp [setReceiver, hflag]

/-- Settles O9. -/
theorem breakResetsTheLink : Obligations.BreakResetsTheLink := by
  intro s hrun h hline
  have hexec : exec .lineBreak s = .next (afterEvent
      (if s.link = .loading then { s with receiver := { s.receiver with lineTimer := false } }
      else { linkReset { s with receiver := { s.receiver with lineTimer := false } } with
        inbound := [] })) := by
    refine (whileRunning_running (u := breakDetected s) hrun).trans ?_
    rw [breakDetected, if_pos ⟨h, hline⟩]
    rfl
  exact ⟨fun hlink => by rw [hexec, if_neg hlink], fun hlink => by rw [hexec, if_pos hlink]⟩

/-! ## Occurrences and the way into DONE -/

/-- How the held detail changes at an occurrence, by the source's number (R120). -/
theorem detailAfter_eq (e : SrcIx) (held value : BitVec 32) :
    detailAfter e held value =
      if e.val < 8 then 0
      else if e.val = 8 ∨ e.val = 9 ∨ e.val = 14 then held ||| value else value := by
  unfold detailAfter drainSource discardSource linkErrorSource
  simp only [Fin.ext_iff]
  rfl

/-- Settles O38. -/
theorem occurrenceReachesItsSource : Obligations.OccurrenceReachesItsSource := by
  intro e value s
  refine ⟨occur_disabled, fun hen hidle => ?_, fun hen hbusy => ?_⟩
  · simp [occur, Source.occurred, Source.joins, hen, hidle, detailAfter_eq]
  · have hjoin : s.sources[e.val].joins = false := by simp [Source.joins, hbusy]
    have hcount : s.sources[e.val].occurred e value = { s.sources[e.val] with
        count := min (s.sources[e.val].count + 1) 255
        detail := detailAfter e s.sources[e.val].detail value } := by
      unfold Source.occurred
      cases h : s.sources[e.val].state with
      | idle => exact absurd h hbusy
      | queued => simp [h, hen]
      | reported => simp [h, hen]
    rw [occur, hjoin, hcount, detailAfter_eq]
    rfl

/-- The fall of a count that completes a drain (R18). -/
theorem lowerCount_drains {i : WinIx} {s : State} (hd : s.windows[i.val].state = .draining)
    (h1 : s.windows[i.val].outstanding = 1) :
    lowerCount i s = occur 8 (BitVec.ofNat 32 (2 ^ i.val)) { s with
      windows := s.windows.set i.val
        { s.windows[i.val] with state := .closed, outstanding := 0 } } := by
  have hdrains : s.windows[i.val].drains = true := by simp [Window.drains, hd, h1]
  rw [lowerCount, if_pos hdrains, Window.lowered, if_pos hdrains, h1]
  rfl

/-- The fall of a count that completes no drain (R16). -/
theorem lowerCount_stays {i : WinIx} {s : State}
    (h : s.windows[i.val].state ≠ .draining ∨ s.windows[i.val].outstanding ≠ 1) :
    lowerCount i s = { s with
      windows := s.windows.set i.val
        { s.windows[i.val] with outstanding := s.windows[i.val].outstanding - 1 } } := by
  have hdrains : ¬ s.windows[i.val].drains = true := by
    simp only [Window.drains, Bool.and_eq_true, beq_iff_eq]
    tauto
  rw [lowerCount, if_neg hdrains, Window.lowered, if_neg hdrains]
  rfl

/-- Settles O37: the record of R64, then the fall of the window's count. -/
theorem enteringDoneSettlesTheSlot : Obligations.EnteringDoneSettlesTheSlot := by
  intro tag status s
  exact ⟨fun hd h1 => lowerCount_drains hd h1, fun h => lowerCount_stays h⟩

/-! ## Retry and hold timers, pins and filters -/

theorem exec_attnFall {n : Target} {s : State} (hrun : s.inReset = false) :
    exec (.attnFall n) s = .next (afterEvent
      (if readyMethodAt n s = .readyLine then { s with rdy := s.rdy.set n.val false }
      else filterFall n { s with rdy := s.rdy.set n.val false })) := by
  refine (if_neg (by simp [hrun])).trans ?_
  by_cases h : readyMethodAt n s = .readyLine
  · rw [if_pos h, if_pos h]
    rfl
  · rw [if_neg h, if_neg h]
    rfl

theorem exec_attnRise {n : Target} {s : State} (hrun : s.inReset = false) :
    exec (.attnRise n) s = .next (afterEvent
      (if readyMethodAt n s = .readyLine then { s with rdy := s.rdy.set n.val true }
      else { s with rdy := s.rdy.set n.val true, filters := s.filters.set n.val .high })) := by
  refine (if_neg (by simp [hrun])).trans ?_
  by_cases h : readyMethodAt n s = .readyLine
  · rw [if_pos h, if_pos h]
    rfl
  · rw [if_neg h, if_neg h]
    rfl

theorem exec_holdExpiry {tag : Tag} {s : State} (hrun : s.inReset = false) :
    exec (.holdExpiry tag) s = .next (afterEvent (holdExpires tag s)) := whileRunning_running hrun

/-- The discard list with a tag added, the oldest of 8 making room (R106). -/
theorem listDiscard_discards_eq (tag : Tag) (s : State) :
    (listDiscard tag s).discards =
      (if s.discards.length < 8 then s.discards else s.discards.tail) ++ [tag] := by
  rw [listDiscard]
  by_cases h : s.discards.length < 8
  · simp [h, Nat.not_le.mpr h]
  · simp [h, Nat.not_lt.mp h]

/-- Settles O52. -/
theorem timersAndPins : Obligations.TimersAndPins := by
  refine ⟨fun tag s hrun => ⟨fun lk hp => ?_, fun hd ht => ?_, fun hd ht => ?_⟩,
    fun n s hrun => ⟨fun h => ⟨?_, ?_⟩, fun h => ⟨fun hf h0 => ?_, fun hf h0 => ?_, ?_⟩,
      fun hf => ?_⟩⟩
  · refine (whileRunning_running hrun).trans ?_
    rw [withLk_running hrun, retryExpires, if_pos hp]
    rfl
  · rw [exec_holdExpiry hrun, holdExpires,
      if_pos ⟨hd, Option.isSome_iff_ne_none.mpr ht⟩, ← listDiscard_discards_eq]
    rfl
  · rw [exec_holdExpiry hrun, holdExpires, if_neg (by simp [ht])]
  · rw [exec_attnFall hrun, if_pos h]
  · rw [exec_attnRise hrun, if_pos h]
  · rw [exec_attnFall hrun, if_neg h, filterFall]
    simp only [hf]
    refine congrArg (fun u => Host.Outcome.next (afterEvent u)) (Eq.trans (if_pos ?_) ?_)
    · exact h0
    · rfl
  · rw [exec_attnFall hrun, if_neg h, filterFall]
    simp only [hf]
    refine congrArg (fun u => Host.Outcome.next (afterEvent u)) (Eq.trans (if_neg ?_) ?_)
    · exact h0
    · rfl
  · rw [exec_attnRise hrun, if_neg h]
  · refine (whileRunning_running hrun).trans ?_
    rw [filterExpires, hf]
    rfl

end Sys2Proof.Machine
end

section
/-! PROOFS. The requests of the Window Table and of the Profile Store. -/

namespace Sys2Proof.Machine

/-! ## WIN_SET -/

/-- A field that stands behind a four-byte field. -/
@[simp] theorem u32At_le32_append (a : BitVec 32) (rest : List Byte) (k : Nat) :
    u32At (le32 a ++ rest) (k + 4) = u32At rest k := by
  simp only [le32, List.cons_append, List.nil_append, u32At_cons]

/-- The three addresses of a WIN_SET payload (R11). -/
theorem winSet_addresses (i n rights : Byte) (base limit offset : Addr) :
    u32At ([i, n, rights] ++ le32 base ++ le32 limit ++ le32 offset) 3 = base ∧
      u32At ([i, n, rights] ++ le32 base ++ le32 limit ++ le32 offset) 7 = limit ∧
      u32At ([i, n, rights] ++ le32 base ++ le32 limit ++ le32 offset) 11 = offset := by
  have hlast := u32At_le32 offset []
  rw [List.append_nil] at hlast
  simp only [List.append_assoc, List.cons_append, List.nil_append, u32At_cons]
  exact ⟨u32At_le32 base _, (u32At_le32_append base _ 0).trans (u32At_le32 limit _),
    (u32At_le32_append base _ 4).trans ((u32At_le32_append limit _ 0).trans hlast)⟩

/-- The ranges of the six values of a window (R11 check 3). -/
theorem windowFieldsOk_iff {n rights : Byte} {base limit offset : Addr} :
    windowFieldsOk n rights base limit offset = true ↔
      n.toNat < 8 ∧ 1 ≤ rights.toNat ∧ rights.toNat ≤ 7 ∧ base.toNat % 1024 = 0 ∧
        (limit.toNat + 1) % 1024 = 0 ∧ base.toNat ≤ limit.toNat ∧ offset.toNat % 1024 = 0 := by
  simp only [windowFieldsOk, aligned1024, limitOk, rightsByteOk, Bool.and_eq_true,
    decide_eq_true_eq]
  tauto

/-- WIN_SET of a window at rest with a field out of range (R11). -/
theorem reqWinSet_bad {i : WinIx} {n rights : Byte} {base limit offset : Addr} {s : State}
    (h : s.windows[i.val].state = .free ∨ s.windows[i.val].state = .closed)
    (hbad : ¬ windowFieldsOk n rights base limit offset = true) :
    reqWinSet ([byteOf i.val, n, rights] ++ le32 base ++ le32 limit ++ le32 offset) s =
      (s, Reply.refusal .badArg) := by
  obtain ⟨hbase, hlimit, hoffset⟩ := winSet_addresses (byteOf i.val) n rights base limit offset
  have hidle : ¬ (s.windows[i.val].state = .opened ∨ s.windows[i.val].state = .draining) := by
    rcases h with h | h <;> simp [h]
  have h0 : byteAt ([byteOf i.val, n, rights] ++ le32 base ++ le32 limit ++ le32 offset) 0 =
    byteOf i.val := rfl
  have h1 : byteAt ([byteOf i.val, n, rights] ++ le32 base ++ le32 limit ++ le32 offset) 1 = n := rfl
  have h2 : byteAt ([byteOf i.val, n, rights] ++ le32 base ++ le32 limit ++ le32 offset) 2 =
    rights := rfl
  simp only [reqWinSet, h0, h1, h2, hbase, hlimit, hoffset, hbad,
    indexOf_byteOf (show 16 ≤ 256 by decide), if_neg hidle, Bool.not_false, if_true]

/-- WIN_SET of a window at rest with its fields in range (R11). -/
theorem reqWinSet_good {i : WinIx} {n : Target} {rights : Byte} {base limit offset : Addr}
    {s : State} (h : s.windows[i.val].state = .free ∨ s.windows[i.val].state = .closed)
    (hok : windowFieldsOk (byteOf n.val) rights base limit offset = true) :
    reqWinSet ([byteOf i.val, byteOf n.val, rights] ++ le32 base ++ le32 limit ++ le32 offset) s =
      (setWindow i
        { state := .closed, base := base, limit := limit, offset := offset, target := n
          rights := rightsOf rights, outstanding := 0 } s, Reply.ok) := by
  obtain ⟨hbase, hlimit, hoffset⟩ :=
    winSet_addresses (byteOf i.val) (byteOf n.val) rights base limit offset
  have hidle : ¬ (s.windows[i.val].state = .opened ∨ s.windows[i.val].state = .draining) := by
    rcases h with h | h <;> simp [h]
  have h0 : byteAt ([byteOf i.val, byteOf n.val, rights] ++ le32 base ++ le32 limit ++ le32 offset)
    0 = byteOf i.val := rfl
  have h1 : byteAt ([byteOf i.val, byteOf n.val, rights] ++ le32 base ++ le32 limit ++ le32 offset)
    1 = byteOf n.val := rfl
  have h2 : byteAt ([byteOf i.val, byteOf n.val, rights] ++ le32 base ++ le32 limit ++ le32 offset)
    2 = rights := rfl
  simp only [reqWinSet, windowOfRequest, h0, h1, h2, hbase, hlimit, hoffset, hok,
    indexOf_byteOf (show 16 ≤ 256 by decide), indexOf_byteOf (show 8 ≤ 256 by decide),
    if_neg hidle, Bool.not_true, Bool.false_eq_true, if_false]

/-- Settles O21. -/
theorem winSetDefinesTheWindow : Obligations.WinSetDefinesTheWindow := by
  rintro seq rights i n base limit offset payload s rfl hready hlink hrest h1 h7 hb hl hbl ho
  have hn : (byteOf n.val).toNat < 8 := by rw [byteOf_toNat n.val (by omega)]; exact n.isLt
  have hok := windowFieldsOk_iff.mpr ⟨hn, h1, h7, hb, hl, hbl, ho⟩
  refine exec_openedRow (r := .winSet) hready (by simp [le32]) hlink rfl rfl
    (reqWinSet_good hrest hok)

/-! ## WIN_OPEN and WIN_CLOSE -/

/-- WIN_OPEN of a CLOSED window with a profile: the fit, then the overlaps (R12). -/
theorem reqWinOpen_closed {i : WinIx} {p : Profile} {s : State}
    (h : s.windows[i.val].state = .closed)
    (hp : s.profiles[(s.windows[i.val].target).val] = some p) :
    reqWinOpen [byteOf i.val] s =
      if s.windows[i.val].offset.toNat +
          (s.windows[i.val].limit.toNat - s.windows[i.val].base.toNat) < 2 ^ (8 * p.addressBytes)
      then
        if overlapsOpen i s = true then (s, Reply.refusal .overlap)
        else (setWindow i s.windows[i.val].openedNow s, Reply.ok)
      else (s, Reply.refusal .range) := by
  simp only [reqWinOpen, byteAt_cons_zero, indexOf_byteOf (show 16 ≤ 256 by decide), h, hp, fits]
  by_cases hfit : s.windows[i.val].offset.toNat +
      (s.windows[i.val].limit.toNat - s.windows[i.val].base.toNat) < 2 ^ (8 * p.addressBytes)
  · simp only [hfit, decide_true, Bool.not_true, Bool.false_eq_true, if_false, if_true]
  · simp only [hfit, decide_false, Bool.not_false, if_false, if_true]

/-- Some other OPEN window shares a bridge address with the window (R8). -/
theorem overlapsOpen_true {i j : WinIx} {s : State} (hj : j ≠ i)
    (ho : s.windows[j.val].state = .opened)
    (hij : s.windows[i.val].base.toNat ≤ s.windows[j.val].limit.toNat)
    (hji : s.windows[j.val].base.toNat ≤ s.windows[i.val].limit.toNat) :
    overlapsOpen i s = true := by
  refine List.any_eq_true.mpr ⟨j, List.mem_finRange j, ?_⟩
  simp [hj, ho, rangesMeet, hij, hji]

/-- No other OPEN window shares a bridge address with the window (R8). -/
theorem overlapsOpen_apart {i : WinIx} {s : State}
    (h : ∀ j : WinIx, j ≠ i → s.windows[j.val].state = .opened →
      s.windows[j.val].limit.toNat < s.windows[i.val].base.toNat ∨
        s.windows[i.val].limit.toNat < s.windows[j.val].base.toNat) :
    ¬ overlapsOpen i s = true := by
  simp only [overlapsOpen, List.any_eq_true, not_exists, not_and]
  intro j _
  by_cases hj : j = i
  · simp [hj]
  · by_cases ho : s.windows[j.val].state = .opened
    · simpa [hj, ho, rangesMeet, imp_iff_not_or] using h j hj ho
    · simp [ho]

theorem reqWinClose_opened {i : WinIx} {s : State} (h : s.windows[i.val].state = .opened) :
    reqWinClose [byteOf i.val] s =
      (setWindow i { s.windows[i.val] with state := closeState s.windows[i.val].outstanding } s,
        Reply.okWith [(closeState s.windows[i.val].outstanding).code,
          byteOf s.windows[i.val].outstanding]) := by
  simp only [reqWinClose, byteAt_cons_zero, indexOf_byteOf (show 16 ≤ 256 by decide), h]

/-- Settles O22. -/
theorem winOpenAndWinClose : Obligations.WinOpenAndWinClose := by
  refine ⟨fun seq i p s hready hlink hclosed hp hfit hapart => ?_,
    fun seq i s hready hlink hopen => ?_⟩
  · refine exec_openedRow (r := .winOpen) hready (by simp) hlink rfl rfl
      ((reqWinOpen_closed hclosed hp).trans ?_)
    rw [if_pos hfit, if_neg (overlapsOpen_apart hapart)]
    rfl
  · have hexec := exec_openedRow (r := .winClose) hready (by simp) hlink rfl rfl
      (reqWinClose_opened hopen)
    refine ⟨fun h0 => hexec.trans ?_, fun h0 => hexec.trans ?_⟩
    · rw [closeState, if_pos h0, h0]
      rfl
    · rw [closeState, if_neg h0]
      rfl

/-! ## Refusals of the window requests -/

/-- An index byte out of range names no window (R10). -/
theorem serve_window_noIndex {k : Request} {b : Byte} {rest : List Byte} {s : State}
    (h16 : 16 ≤ b.toNat)
    (hk : k = .winSet ∨ k = .winOpen ∨ k = .winClose ∨ k = .winFree) :
    serve k (b :: rest) s = (s, Reply.refusal .badArg) := by
  have hix : indexOf? 16 (byteAt (b :: rest) 0) = none := indexOf_none h16
  rcases hk with rfl | rfl | rfl | rfl
  · show reqWinSet _ s = _
    rw [reqWinSet, hix]
  · show reqWinOpen _ s = _
    rw [reqWinOpen, hix]
  · show reqWinClose _ s = _
    rw [reqWinClose, hix]
  · show reqWinFree _ s = _
    rw [reqWinFree, hix]

theorem reqWinSet_inUse {i : WinIx} {rest : List Byte} {s : State}
    (h : s.windows[i.val].state = .opened ∨ s.windows[i.val].state = .draining) :
    reqWinSet (byteOf i.val :: rest) s = (s, Reply.refusal .busy) := by
  simp only [reqWinSet, byteAt_cons_zero, indexOf_byteOf (show 16 ≤ 256 by decide), if_pos h]

theorem reqWinOpen_wrongState {i : WinIx} {s : State}
    (h : s.windows[i.val].state = .free ∨ s.windows[i.val].state = .opened) :
    reqWinOpen [byteOf i.val] s = (s, Reply.refusal .wrongState) := by
  rcases h with h | h <;> simp [reqWinOpen, indexOf_byteOf, h]

theorem reqWinOpen_draining {i : WinIx} {s : State} (h : s.windows[i.val].state = .draining) :
    reqWinOpen [byteOf i.val] s = (s, Reply.refusal .busy) := by
  simp [reqWinOpen, indexOf_byteOf, h]

theorem reqWinOpen_noProfile {i : WinIx} {s : State} (h : s.windows[i.val].state = .closed)
    (hp : s.profiles[(s.windows[i.val].target).val] = none) :
    reqWinOpen [byteOf i.val] s = (s, Reply.refusal .noProfile) := by
  simp [reqWinOpen, indexOf_byteOf, h, hp]

theorem reqWinClose_wrongState {i : WinIx} {s : State} (h : s.windows[i.val].state ≠ .opened) :
    reqWinClose [byteOf i.val] s = (s, Reply.refusal .wrongState) := by
  cases hw : s.windows[i.val].state with
  | opened => exact absurd hw h
  | _ => simp [reqWinClose, indexOf_byteOf, hw]

/-- Settles O25: the refusals, request by request. -/
theorem windowRequestsAreRefused : Obligations.WindowRequestsAreRefused := by
  intro seq s hlink
  refine ⟨fun k b rest lk h16 hk hready => ?_, fun i rest hlen hinUse hready => ?_, ?_,
    fun i hready => ⟨fun h => ?_, fun h => ?_, fun h hp => ?_, fun p h hp hbig => ?_,
      fun p j h hp hfit hj ho hij hji => ?_⟩, fun i h hready => ?_⟩
  · have hkind : k = .winSet ∨ k = .winOpen ∨ k = .winClose ∨ k = .winFree := by tauto
    have hlk : k.lkFound lk s.lk = s.lk := by rcases hkind with rfl | rfl | rfl | rfl <;> rfl
    have hlen : lengthOk k (b :: rest) = true := by
      rcases hk with ⟨rfl, h14⟩ | ⟨rfl | rfl | rfl, rfl⟩
      · simp [lengthOk, Request.payloadLength, h14]
      all_goals rfl
    have hshort : (b :: rest).length ≤ 300 := by
      rcases hk with ⟨-, h14⟩ | ⟨-, rfl⟩
      · simp [h14]
      · simp
    refine exec_served hready hshort ?_ hlen ?_
    · rw [hlink]
      exact linkRefusal_opened (by rcases hkind with rfl | rfl | rfl | rfl <;> decide)
    · rw [hlk]
      exact serve_window_noIndex h16 hkind
  · exact exec_openedRow (r := .winSet) hready (by simp [hlen]) hlink rfl
      (by simp [lengthOk, Request.payloadLength, hlen]) (reqWinSet_inUse hinUse)
  · rintro i n rights base limit offset payload rfl hrest hbad hready
    refine exec_openedRow (r := .winSet) hready (by simp [le32]) hlink rfl rfl
      (reqWinSet_bad hrest ?_)
    rw [windowFieldsOk_iff]
    omega
  · exact exec_openedRow (r := .winOpen) hready (by simp) hlink rfl rfl (reqWinOpen_wrongState h)
  · exact exec_openedRow (r := .winOpen) hready (by simp) hlink rfl rfl (reqWinOpen_draining h)
  · exact exec_openedRow (r := .winOpen) hready (by simp) hlink rfl rfl (reqWinOpen_noProfile h hp)
  · exact exec_openedRow (r := .winOpen) hready (by simp) hlink rfl rfl
      ((reqWinOpen_closed h hp).trans (if_neg (Nat.not_lt.mpr hbig)))
  · exact exec_openedRow (r := .winOpen) hready (by simp) hlink rfl rfl
      ((reqWinOpen_closed h hp).trans
        ((if_pos hfit).trans (if_pos (overlapsOpen_true hj ho hij hji))))
  · exact exec_openedRow (r := .winClose) hready (by simp) hlink rfl rfl (reqWinClose_wrongState h)

/-! ## Profile records -/

/-- The ranges of a profile record, byte by byte (R24). -/
theorem profileBadAt_none_iff (rec : List Byte) :
    profileBadAt rec = none ↔
      (byteAt rec 0).toNat < 8 ∧
      ((byteAt rec 1).toNat = 2 ∨ (byteAt rec 1).toNat = 3 ∨ (byteAt rec 1).toNat = 4) ∧
      (byteAt rec 3).toNat ≤ 8 ∧
      ((byteAt rec 6).toNat = 1 ∨ (byteAt rec 6).toNat = 2 ∨ (byteAt rec 6).toNat = 4) ∧
      (byteAt rec 8).toNat ≤ 8 ∧ (byteAt rec 9).toNat ≤ 2 ∧ 1 ≤ (byteAt rec 12).toNat ∧
      (byteAt rec 14).toNat ≤ 3 := by
  have hrange : List.range 15 = [0, 1, 2, 3, 4, 5, 6, 7, 8, 9, 10, 11, 12, 13, 14] := rfl
  simp [profileBadAt, hrange, profileByteOk, or_assoc]

/-- The fields of a profile in range (R24). -/
theorem profile_inRange_iff (p : Profile) :
    p.inRange = true ↔
      (p.addressBytes = 2 ∨ p.addressBytes = 3 ∨ p.addressBytes = 4) ∧ p.readDummy ≤ 8 ∧
      (p.dataLines = 1 ∨ p.dataLines = 2 ∨ p.dataLines = 4) ∧ p.pageCode ≤ 8 ∧
      1 ≤ p.retryInterval ∧ p.retryInterval ≤ 255 ∧ p.retryLimit ≤ 255 ∧ p.attnFilter ≤ 3 := by
  simp [Profile.inRange, or_assoc, and_assoc]

@[simp] theorem readyMethodOf_code (m : ReadyMethod) : readyMethodOf m.code = m := by
  cases m <;> rfl

theorem readyMethod_code_le (m : ReadyMethod) : m.code.toNat ≤ 2 := by cases m <;> decide

/-- A ready method byte in range is the code of the method it names (R25). -/
theorem code_readyMethodOf {b : Byte} (h : b.toNat ≤ 2) : (readyMethodOf b).code = b := by
  unfold readyMethodOf
  split
  · next h0 => rw [h0]; rfl
  · split
    · next h1 => rw [h1]; rfl
    · next h0 h1 =>
      refine BitVec.eq_of_toNat_eq (?_ : 2 = b.toNat)
      have h0' : b.toNat ≠ 0 := fun hb => h0 (BitVec.eq_of_toNat_eq hb)
      have h1' : b.toNat ≠ 1 := fun hb => h1 (BitVec.eq_of_toNat_eq hb)
      omega

/-- The record of a profile in range passes the field checks (R24, R26). -/
theorem profileBadAt_bytes {n : Target} {p : Profile} (h : p.inRange = true) :
    profileBadAt (byteOf n.val :: p.bytes) = none := by
  obtain ⟨ha, hd, hl, hpg, hi, hi', hr, hf⟩ := (profile_inRange_iff p).mp h
  rw [profileBadAt_none_iff]
  simp only [Profile.bytes, byteAt_cons_zero, byteAt_cons_succ]
  rw [byteOf_toNat n.val (by omega), byteOf_toNat p.addressBytes (by omega),
    byteOf_toNat p.readDummy (by omega), byteOf_toNat p.dataLines (by omega),
    byteOf_toNat p.pageCode (by omega), byteOf_toNat p.retryInterval (by omega),
    byteOf_toNat p.attnFilter (by omega)]
  exact ⟨n.isLt, ha, hd, hl, hpg, readyMethod_code_le _, hi, hf⟩

/-- The record of a profile in range reads back as the profile (R25). -/
theorem profileOf_bytes {b : Byte} {p : Profile} (h : p.inRange = true) :
    profileOf (b :: p.bytes) = p := by
  obtain ⟨ha, hd, hl, hpg, hi, hi', hr, hf⟩ := (profile_inRange_iff p).mp h
  simp only [profileOf, Profile.bytes, byteAt_cons_zero, byteAt_cons_succ, readyMethodOf_code]
  rw [byteOf_toNat p.addressBytes (by omega),
    byteOf_toNat p.readDummy (by omega), byteOf_toNat p.dataLines (by omega),
    byteOf_toNat p.pageCode (by omega), byteOf_toNat p.retryInterval (by omega),
    byteOf_toNat p.retryLimit (by omega), byteOf_toNat p.attnFilter (by omega)]

/-- A record that passes the field checks is the record of the profile it reads as (R25, R26). -/
theorem bytes_profileOf {b : Byte} {rest : List Byte} (hlen : rest.length = 14)
    (h : profileBadAt (b :: rest) = none) :
    (profileOf (b :: rest)).bytes = rest ∧ (profileOf (b :: rest)).inRange = true := by
  match rest, hlen with
  | [b1, b2, b3, b4, b5, b6, b7, b8, b9, b10, b11, b12, b13, b14], _ =>
    obtain ⟨-, ha, hd, hl, hpg, hm, hi, hf⟩ := (profileBadAt_none_iff _).mp h
    simp only [byteAt_cons_zero, byteAt_cons_succ] at ha hd hl hpg hm hi hf
    refine ⟨?_, (profile_inRange_iff _).mpr ?_⟩
    · simp [profileOf, Profile.bytes, code_readyMethodOf hm]
    · simp only [profileOf, byteAt_cons_zero, byteAt_cons_succ]
      exact ⟨ha, hd, hl, hpg, hi, Nat.le_of_lt_succ b12.isLt, Nat.le_of_lt_succ b13.isLt, hf⟩

/-- Settles O28. -/
theorem profileBytesRoundTrip : Obligations.ProfileBytesRoundTrip :=
  ⟨fun _ _ h => ⟨profileBadAt_bytes h, profileOf_bytes h⟩, fun _ _ hlen h => bytes_profileOf hlen h⟩

/-! ## PROF_SET -/

/-- What locks a target's profile (R27). -/
theorem locked_iff {n : Target} {s : State} :
    locked n s = true ↔
      (∃ i : WinIx, (s.windows[i.val].state = .opened ∨ s.windows[i.val].state = .draining) ∧
        s.windows[i.val].target = n) ∨
      ∃ tag : Tag, s.slots[tag.val].live = true ∧ s.slots[tag.val].target = n := by
  simp only [locked, windowHolds, slotHolds, toList_finRange, Bool.or_eq_true, List.any_map,
    List.any_eq_true, Function.comp_apply, Bool.and_eq_true, beq_iff_eq, List.mem_finRange,
    true_and]

/-- PROF_SET of a target: the lock, then the fields (R26). -/
theorem reqProfSet_target {n : Target} {rest : List Byte} {s : State} :
    reqProfSet (byteOf n.val :: rest) s =
      if locked n s = true then (s, Reply.refusal .busy)
      else if (profileBadAt (byteOf n.val :: rest)).isSome = true then (s, Reply.refusal .badArg)
      else (takeProfile n (profileOf (byteOf n.val :: rest)) s, Reply.ok) := by
  rw [reqProfSet, byteAt_cons_zero, indexOf_byteOf (by decide)]

/-- A profile taken by a target whose pin becomes or stays a ready input (R28, R45; log 10). -/
theorem takeProfile_readyLine {n : Target} {p : Profile} {s : State}
    (h : p.readyMethod = .readyLine) :
    takeProfile n p s = { s with
      profiles := s.profiles.set n.val (some p)
      filters := s.filters.set n.val (if s.rdy[n.val] then .high else .low)
      sources := s.sources.set n.val
        { enabled := false, mode := s.sources[n.val].mode, state := .idle, count := 0
          reported := 0, detail := 0 }
      notices := s.notices.filter fun e => e.val != n.val } := by
  have hnotice : (fun e : SrcIx => e != attnSource n) = fun e => e.val != n.val := by
    funext e
    simp [bne, attnSource, Fin.ext_iff, BEq.beq]
  rw [takeProfile, if_pos h, disableKeepingMode, disableSource, hnotice, filterTaken,
    if_pos (.inl h)]
  rfl

/-- A profile taken by a target whose pin is an attention input (R28, R45). -/
theorem takeProfile_attention {n : Target} {p : Profile} {s : State}
    (h : p.readyMethod ≠ .readyLine) :
    takeProfile n p s = { s with
      profiles := s.profiles.set n.val (some p)
      filters := s.filters.set n.val
        (if readyMethodAt n s = .readyLine ∨ filterTimeAt n s ≠ p.attnFilter then
          (if s.rdy[n.val] then .high else .low)
        else s.filters[n.val]) } := by
  have htaken : filterTaken n p s =
      if readyMethodAt n s = .readyLine ∨ filterTimeAt n s ≠ p.attnFilter then
        (if s.rdy[n.val] then .high else .low)
      else s.filters[n.val] := if_congr (by simp [h]) rfl rfl
  rw [takeProfile, if_neg h, htaken]

theorem not_locked {n : Target} {s : State}
    (hw : ∀ i : WinIx, s.windows[i.val].state = .opened ∨ s.windows[i.val].state = .draining →
      s.windows[i.val].target ≠ n)
    (hs : ∀ tag : Tag, s.slots[tag.val].live = true → s.slots[tag.val].target ≠ n) :
    ¬ locked n s = true := by
  rw [locked_iff]
  rintro (⟨i, hi, hn⟩ | ⟨tag, hlive, hn⟩)
  · exact hw i hi hn
  · exact hs tag hlive hn

/-- Settles O26: the lock and the fields decide, then the store takes the profile. -/
theorem profSetWritesTheProfile : Obligations.ProfSetWritesTheProfile := by
  refine ⟨fun seq n p s hp hready hlink hw hs => ?_, fun seq b rest s hlen hlink hready => ?_⟩
  · have hserve : reqProfSet (byteOf n.val :: p.bytes) s = (takeProfile n p s, Reply.ok) := by
      rw [reqProfSet_target, if_neg (not_locked hw hs), profileBadAt_bytes hp, profileOf_bytes hp]
      rfl
    have hexec := exec_openedRow (r := .profSet) hready (by simp [Profile.bytes]) hlink rfl rfl
      hserve
    exact ⟨fun hr => by rw [← takeProfile_readyLine hr]; exact hexec,
      fun hr => by rw [← takeProfile_attention hr]; exact hexec⟩
  · have hexec {reply : Reply} (hserve : reqProfSet (b :: rest) s = (s, reply)) :=
      exec_openedRow (r := .profSet) hready (by simp [hlen]) hlink rfl
        (by simp [lengthOk, Request.payloadLength, hlen]) hserve
    refine ⟨fun h8 => hexec ?_, fun n hb hlocked => hexec ?_, fun n hb hw hs hbad => hexec ?_⟩
    · rw [reqProfSet, byteAt_cons_zero, indexOf_none h8]
    · rw [hb, reqProfSet_target, if_pos (locked_iff.mpr hlocked)]
    · have hsome : (profileBadAt (byteOf n.val :: rest)).isSome = true := by
        rw [Option.isSome_iff_ne_none]
        intro hnone
        obtain ⟨hbytes, hrange⟩ := bytes_profileOf hlen hnone
        exact hbad _ hrange hbytes
      rw [hb, reqProfSet_target, if_neg (not_locked hw hs), if_pos hsome]

/-! ## PROF_QUERY -/

/-- The byte of a target's index is not 255, the index of the summary. -/
theorem byteOf_target_ne (n : Target) : byteOf n.val ≠ 255 := by
  intro h
  have hval : (byteOf n.val).toNat = n.val := byteOf_toNat n.val (by omega)
  have h255 : (byteOf n.val).toNat = 255 := by rw [h]; rfl
  omega

theorem reqProfQuery_target (n : Target) (s : State) :
    reqProfQuery [byteOf n.val] s = (s, Reply.okWith (profileRecord n s)) := by
  rw [reqProfQuery, byteAt_cons_zero, if_neg (byteOf_target_ne n), indexOf_byteOf (by decide)]

theorem profileRecord_set {n : Target} {p : Profile} {s : State}
    (h : s.profiles[n.val] = some p) :
    profileRecord n s = [byteOf n.val, 1] ++ p.bytes ++
      [if p.readyMethod = .readyLine then 1 else 0, if s.rdy[n.val] then 1 else 0] := by
  simp [profileRecord, profileBytesAt, pinFunction, readyMethodAt, h, boolByte]

theorem profileRecord_unset {n : Target} {s : State} (h : s.profiles[n.val] = none) :
    profileRecord n s = [byteOf n.val, 0] ++ List.replicate 14 0 ++
      [0, if s.rdy[n.val] then 1 else 0] := by
  simp [profileRecord, profileBytesAt, pinFunction, readyMethodAt, h, boolByte]

/-- Settles O27. -/
theorem profQueryReadsTheProfile : Obligations.ProfQueryReadsTheProfile := by
  intro seq s hlink
  refine ⟨fun n p hp hready => ?_, fun n hp hready => ?_, fun hready => ?_,
    fun b h8 h255 hready => ?_⟩
  · rw [← profileRecord_set hp]
    exact exec_openedRow (r := .profQuery) hready (by simp) hlink rfl rfl (reqProfQuery_target n s)
  · rw [← profileRecord_unset hp]
    exact exec_openedRow (r := .profQuery) hready (by simp) hlink rfl rfl (reqProfQuery_target n s)
  · refine exec_openedRow (r := .profQuery) hready (by simp) hlink rfl rfl ?_
    refine congrArg (fun bytes => (s, Reply.okWith bytes)) (List.flatMap_congr fun n _ => ?_)
    unfold readyMethodAt
    cases s.profiles[n.val] <;> rfl
  · refine exec_openedRow (r := .profQuery) hready (by simp) hlink rfl rfl ?_
    show reqProfQuery [b] s = _
    rw [reqProfQuery, byteAt_cons_zero, if_neg h255, indexOf_none h8]

end Sys2Proof.Machine
end

section
/-! PROOFS. SUBMIT: what its payloads say, the eight checks, the refusals and the acceptance. -/

namespace Sys2Proof.Machine

/-! ## The checks on the payload -/

/-- A SUBMIT payload of a tag that passes checks 1 to 3 (R51, R52). -/
def SubmitGood (payload : List Byte) (tag : Tag) : Prop :=
  2 ≤ payload.length ∧ payload.length ≤ 300 ∧ submitFieldsOk payload = true ∧
    submitLengthsOk payload = true ∧ byteAt payload 0 = byteOf tag.val

/-- A SUBMIT in OPEN whose payload is good comes to checks 4 to 8 (R51). -/
theorem reqSubmit_good {payload : List Byte} {tag : Tag} {s : State} (hlink : s.link = .opened)
    (h : SubmitGood payload tag) : reqSubmit payload s = submitChecked payload tag s := by
  obtain ⟨hlen, -, hfields, hlengths, htag⟩ := h
  rw [reqSubmit, if_neg (by simp [hlink]), if_neg (by omega), if_neg (by simp [hfields]),
    if_neg (by simp [hlengths]), htag, indexOf_byteOf (by decide)]

/-- The row of a SUBMIT in OPEN (R51; log 3). -/
theorem exec_submit {seq : Byte} {payload : List Byte} {lk : LkLevels} {s u : State} {reply : Reply}
    (hready : ReadyFor (requestFrame .submit seq payload) s) (hp : payload.length ≤ 300)
    (hlink : s.link = .opened) (h : reqSubmit payload { s with lk := lk } = (u, reply)) :
    exec (.submit seq payload lk) s =
      .next (answeredWith (requestFrame .submit seq payload) reply u) :=
  exec_served (r := .submit) hready hp (by rw [hlink]; rfl) rfl h

/-- The row of a SUBMIT in OPEN whose payload is good (R51). -/
theorem exec_submit_good {seq : Byte} {payload : List Byte} {tag : Tag} {lk : LkLevels}
    {s u : State} {reply : Reply} (hready : ReadyFor (requestFrame .submit seq payload) s)
    (hlink : s.link = .opened) (hgood : SubmitGood payload tag)
    (h : submitChecked payload tag { s with lk := lk } = (u, reply)) :
    exec (.submit seq payload lk) s =
      .next (answeredWith (requestFrame .submit seq payload) reply u) :=
  exec_submit hready hgood.2.1 hlink
    ((reqSubmit_good (s := { s with lk := lk }) hlink hgood).trans h)

/-- A byte field within its bound, or past the payload's end (R164). -/
theorem fieldAtMost_iff {payload : List Byte} {k top : Nat} :
    fieldAtMost payload k top = true ↔
      ¬ (k < payload.length ∧ top < (byteAt payload k).toNat) := by
  simp only [fieldAtMost, Bool.or_eq_true, decide_eq_true_eq]
  omega

/-- A byte and a number that is its value. -/
theorem byte_eq_iff {b c : Byte} : b = c ↔ b.toNat = c.toNat :=
  ⟨congrArg _, fun h => BitVec.eq_of_toNat_eq h⟩

/-- Check 2, field by field (R51, R164). -/
theorem submitFieldsOk_iff {payload : List Byte} :
    submitFieldsOk payload = true ↔
      fieldAtMost payload 0 31 = true ∧ fieldAtMost payload 1 2 = true ∧
      fieldAtMost payload 2 1 = true ∧
      ((byteAt payload 1).toNat = 2 →
        fieldAtMost payload 8 1 = true ∧ fieldAtMost payload 9 1 = true) := by
  have hkind : byteAt payload 1 = 2 ↔ (byteAt payload 1).toNat = 2 := byte_eq_iff
  simp only [submitFieldsOk, Bool.and_eq_true, Bool.or_eq_true, bne_iff_ne, ne_eq, hkind,
    imp_iff_not_or, and_assoc]

/-! ## The three kinds of payload -/

/-- The bridge address stands behind the first three bytes (Table 8-3). -/
theorem submitAddress_eq (b0 b1 b2 : Byte) (address : Addr) (rest : List Byte) :
    submitAddress ([b0, b1, b2] ++ le32 address ++ rest) = address := by
  simp only [submitAddress, List.cons_append, List.nil_append, u32At_cons]
  exact u32At_le32 address rest

/-- The payload of a READ (Table 8-4). -/
def readPayload (tag : Tag) (pullOnly : Bool) (address : Addr) (n : Nat) : List Byte :=
  [byteOf tag.val, 0, boolByte pullOnly] ++ le32 address ++ le16 n

/-- The payload of a WRITE (Table 8-5). -/
def writePayload (tag : Tag) (pullOnly : Bool) (address : Addr) (data : List Byte) : List Byte :=
  [byteOf tag.val, 1, boolByte pullOnly] ++ le32 address ++ le16 data.length ++ data

/-- The payload of a COMMAND (Table 8-6). -/
def commandPayload (tag : Tag) (pullOnly : Bool) (address : Addr) (opcode : Byte)
    (usesAddress preamble : Bool) (part : List Byte) (readPart : Nat) : List Byte :=
  [byteOf tag.val, 2, boolByte pullOnly] ++ le32 address ++
    [opcode, boolByte usesAddress, boolByte preamble, byteOf part.length, byteOf readPart] ++ part

section
variable {tag : Tag} {pullOnly : Bool} {address : Addr}

theorem byteOf_tag (tag : Tag) : (byteOf tag.val).toNat = tag.val := byteOf_toNat tag.val (by omega)

theorem submitLength_read {n : Nat} (h : n ≤ 256) :
    submitLength (readPayload tag pullOnly address n) = n := by
  simpa [submitLength, readPayload, u16At, le32, le16] using le16_join n (by omega)

theorem submitLength_write {data : List Byte} (h : data.length ≤ 256) :
    submitLength (writePayload tag pullOnly address data) = data.length := by
  simpa [submitLength, writePayload, u16At, le32, le16] using le16_join data.length (by omega)

theorem submitKind_read (n : Nat) : submitKind (readPayload tag pullOnly address n) = .read := rfl

theorem submitKind_write (data : List Byte) :
    submitKind (writePayload tag pullOnly address data) = .write := rfl

theorem submitKind_command {opcode : Byte} {usesAddress preamble : Bool} {part : List Byte}
    {readPart : Nat} :
    submitKind (commandPayload tag pullOnly address opcode usesAddress preamble part readPart) =
      .command := rfl

/-- The head of every payload passes check 2 (R51). -/
theorem head_fieldsOk {kind : Byte} {rest : List Byte} (hk : kind.toNat ≤ 2) :
    fieldAtMost ([byteOf tag.val, kind, boolByte pullOnly] ++ rest) 0 31 = true ∧
      fieldAtMost ([byteOf tag.val, kind, boolByte pullOnly] ++ rest) 1 2 = true ∧
      fieldAtMost ([byteOf tag.val, kind, boolByte pullOnly] ++ rest) 2 1 = true := by
  have htag : tag.val ≤ 31 := by omega
  simp [fieldAtMost, byteOf_tag, hk, htag]

theorem submitGood_read {n : Nat} (h1 : 1 ≤ n) (h256 : n ≤ 256) :
    SubmitGood (readPayload tag pullOnly address n) tag := by
  have hlen : (readPayload tag pullOnly address n).length = 9 := rfl
  obtain ⟨h0, hk, hp⟩ := head_fieldsOk (tag := tag) (pullOnly := pullOnly) (kind := 0)
    (rest := le32 address ++ le16 n) (by decide)
  refine ⟨by omega, by omega, submitFieldsOk_iff.mpr ⟨h0, hk, hp, ?_⟩, ?_, rfl⟩
  · exact fun h => absurd h (by decide : ¬ (0 : Byte).toNat = 2)
  · simp [submitLengthsOk, submitKind_read, hlen, submitLength_read h256, h1, h256]

theorem submitGood_write {data : List Byte} (h1 : 1 ≤ data.length) (h256 : data.length ≤ 256) :
    SubmitGood (writePayload tag pullOnly address data) tag := by
  have hlen : (writePayload tag pullOnly address data).length = 9 + data.length := by
    simp [writePayload, le32, le16]
    omega
  obtain ⟨h0, hk, hp⟩ := head_fieldsOk (tag := tag) (pullOnly := pullOnly) (kind := 1)
    (rest := le32 address ++ (le16 data.length ++ data)) (by decide)
  refine ⟨by omega, by omega, submitFieldsOk_iff.mpr ⟨h0, hk, hp, ?_⟩, ?_, rfl⟩
  · exact fun h => absurd h (by decide : ¬ (1 : Byte).toNat = 2)
  · simp [submitLengthsOk, submitKind_write, hlen, submitLength_write h256, h1, h256]

/-- The two part lengths of a COMMAND and its write part (Table 8-6). -/
theorem command_parts {opcode : Byte} {usesAddress preamble : Bool} {part : List Byte}
    {readPart : Nat} (hw : part.length ≤ 16) (hr : readPart ≤ 16) :
    submitWritePart (commandPayload tag pullOnly address opcode usesAddress preamble part readPart) =
        part.length ∧
      submitReadPart (commandPayload tag pullOnly address opcode usesAddress preamble part readPart) =
        readPart ∧
      (commandPayload tag pullOnly address opcode usesAddress preamble part readPart).drop 12 =
        part :=
  ⟨byteOf_toNat part.length (by omega), byteOf_toNat readPart (by omega), rfl⟩

theorem submitGood_command {opcode : Byte} {usesAddress preamble : Bool} {part : List Byte}
    {readPart : Nat} (hw : part.length ≤ 16) (hr : readPart ≤ 16) :
    SubmitGood (commandPayload tag pullOnly address opcode usesAddress preamble part readPart)
      tag := by
  obtain ⟨hwrite, hread, -⟩ := command_parts (tag := tag) (pullOnly := pullOnly)
    (address := address) (opcode := opcode) (usesAddress := usesAddress) (preamble := preamble)
    hw hr
  have hlen : (commandPayload tag pullOnly address opcode usesAddress preamble part
      readPart).length = 12 + part.length := by
    simp [commandPayload, le32]
    omega
  obtain ⟨h0, hk, hp⟩ := head_fieldsOk (tag := tag) (pullOnly := pullOnly) (kind := 2)
    (rest := le32 address ++ ([opcode, boolByte usesAddress, boolByte preamble,
      byteOf part.length, byteOf readPart] ++ part)) (by decide)
  refine ⟨by omega, by omega, submitFieldsOk_iff.mpr ⟨h0, hk, hp, fun _ => ⟨?_, ?_⟩⟩, ?_, rfl⟩
  · rw [fieldAtMost_iff]
    exact fun h => absurd h.2 (Nat.not_lt.mpr (boolByte_toNat_le usesAddress))
  · rw [fieldAtMost_iff]
    exact fun h => absurd h.2 (Nat.not_lt.mpr (boolByte_toNat_le preamble))
  · simp [submitLengthsOk, submitKind_command, hlen, hwrite, hread, hw, hr]

end

/-! ## Checks 4 to 8 -/

/-- The OPEN window that holds an address is the one found, as OPEN windows lie apart (R3, R8). -/
theorem findWindow_eq {address : Addr} {i : WinIx} {s : State} (ho : OverlapLaw s)
    (hi : s.windows[i.val].state = .opened) (hb : s.windows[i.val].base.toNat ≤ address.toNat)
    (hl : address.toNat ≤ s.windows[i.val].limit.toNat) : findWindow address s = some i := by
  cases h : findWindow address s with
  | none =>
    have := List.find?_eq_none.mp h i (List.mem_finRange i)
    simp [hi, hb, hl] at this
  | some j =>
    obtain ⟨hj, hjb, hjl⟩ := findWindow_some h
    by_contra hne
    have hne' : j ≠ i := fun he => hne (congrArg some he)
    have hapart := ho j i hne' hj hi
    simp only [rangesMeet, Bool.and_eq_false_iff, Bool.not_eq_false', decide_eq_true_eq] at hapart
    omega

theorem findWindow_none {address : Addr} {s : State}
    (h : ∀ i : WinIx, s.windows[i.val].state = .opened →
      address.toNat < s.windows[i.val].base.toNat ∨ s.windows[i.val].limit.toNat < address.toNat) :
    findWindow address s = none := by
  refine List.find?_eq_none.mpr fun i _ hi => ?_
  simp only [Bool.and_eq_true, beq_iff_eq, decide_eq_true_eq] at hi
  obtain ⟨⟨hopen, hb⟩, hl⟩ := hi
  rcases h i hopen with h | h <;> omega

/-- Checks 6 to 8 of a SUBMIT with a FREE tag and a window (R51). -/
theorem submitChecked_window {payload : List Byte} {tag : Tag} {i : WinIx} {s : State}
    (hfree : s.slots[tag.val].state = .free)
    (hi : findWindow (submitAddress payload) s = some i) :
    submitChecked payload tag s =
      if s.windows[i.val].limit.toNat < submitLast payload then (s, Reply.refusal .range)
      else if !s.windows[i.val].rights.allow (submitKind payload) (submitWriteNeed payload) then
        (s, Reply.refusal .access)
      else if queueCapacity ≤ s.queues[(s.windows[i.val].target).val].length then
        (s, Reply.refusal .queueFull)
      else (arbitrate (laneOf s.windows[i.val].target) (acceptSubmit payload tag i s), Reply.ok) := by
  rw [submitChecked, if_neg (by simp [hfree]), hi]

theorem submitChecked_inUse {payload : List Byte} {tag : Tag} {s : State}
    (h : s.slots[tag.val].state ≠ .free) :
    submitChecked payload tag s = (s, Reply.refusal .tagInUse) := if_pos h

theorem submitChecked_noWindow {payload : List Byte} {tag : Tag} {s : State}
    (hfree : s.slots[tag.val].state = .free) (h : findWindow (submitAddress payload) s = none) :
    submitChecked payload tag s = (s, Reply.refusal .noWindow) := by
  rw [submitChecked, if_neg (by simp [hfree]), h]

/-- A SUBMIT that passes checks 4 to 8 is accepted (R54, R7). -/
theorem submitChecked_accepts {payload : List Byte} {tag : Tag} {i : WinIx} {s : State}
    (hfree : s.slots[tag.val].state = .free)
    (hi : findWindow (submitAddress payload) s = some i)
    (hlast : submitLast payload ≤ s.windows[i.val].limit.toNat)
    (hallow : s.windows[i.val].rights.allow (submitKind payload) (submitWriteNeed payload) = true)
    (hroom : s.queues[(s.windows[i.val].target).val].length < 16) :
    submitChecked payload tag s =
      (arbitrate (laneOf s.windows[i.val].target) (acceptSubmit payload tag i s), Reply.ok) := by
  rw [submitChecked_window hfree hi, if_neg (Nat.not_lt.mpr hlast), if_neg (by simp [hallow]),
    if_neg (show ¬ queueCapacity ≤ _ from Nat.not_le.mpr hroom)]

/-! ## Acceptance -/

/-- The slot an accepted READ fills (R54). -/
theorem submitSlot_read {tag : Tag} {pullOnly : Bool} {address : Addr} {n : Nat} (h : n ≤ 256)
    (i : WinIx) (w : Window) (code : Nat) :
    submitSlot (readPayload tag pullOnly address n) i w code =
      { Slot.freed with
        state := .queued, kind := .read, pullOnly := pullOnly, window := i, target := w.target
        address := w.offset.toNat + (address.toNat - w.base.toNat)
        length := n, piecesTotal := 1, nextPiece := 1 } := by
  have haddr : submitAddress (readPayload tag pullOnly address n) = address :=
    submitAddress_eq _ _ _ address (le16 n)
  have hpull : (byteAt (readPayload tag pullOnly address n) 2 == 1) = pullOnly :=
    boolByte_eq_one pullOnly
  simp only [submitSlot, submitKind_read, hpull, haddr, submitLength_read h, Window.translate]

/-- The slot an accepted WRITE fills (R54, R40). -/
theorem submitSlot_write {tag : Tag} {pullOnly : Bool} {address : Addr} {data : List Byte}
    (h : data.length ≤ 256) (i : WinIx) (w : Window) (code : Nat) :
    submitSlot (writePayload tag pullOnly address data) i w code =
      { Slot.freed with
        state := .queued, kind := .write, pullOnly := pullOnly, window := i, target := w.target
        address := w.offset.toNat + (address.toNat - w.base.toNat)
        length := data.length, writeData := data
        piecesTotal := pieceCount code
          (w.offset.toNat + (address.toNat - w.base.toNat)) data.length
        nextPiece := 1 } := by
  have haddr : submitAddress (writePayload tag pullOnly address data) = address :=
    submitAddress_eq _ _ _ address (le16 data.length ++ data)
  have hpull : (byteAt (writePayload tag pullOnly address data) 2 == 1) = pullOnly :=
    boolByte_eq_one pullOnly
  have hdata : (writePayload tag pullOnly address data).drop 9 = data := rfl
  simp only [submitSlot, submitKind_write, hpull, haddr, submitLength_write h, hdata,
    Window.translate]

/-- The slot an accepted COMMAND fills (R54). -/
theorem submitSlot_command {tag : Tag} {pullOnly usesAddress preamble : Bool} {address : Addr}
    {opcode : Byte} {part : List Byte} {readPart : Nat} (hw : part.length ≤ 16)
    (hr : readPart ≤ 16) (i : WinIx) (w : Window) (code : Nat) :
    submitSlot (commandPayload tag pullOnly address opcode usesAddress preamble part readPart)
        i w code =
      { Slot.freed with
        state := .queued, kind := .command, pullOnly := pullOnly, window := i, target := w.target
        address := w.offset.toNat + (address.toNat - w.base.toNat)
        opcode := opcode, usesAddress := usesAddress, preamble := preamble, writePart := part
        readPartLength := readPart, piecesTotal := 1, nextPiece := 1 } := by
  obtain ⟨-, hread, hpart⟩ := command_parts (tag := tag) (pullOnly := pullOnly)
    (address := address) (opcode := opcode) (usesAddress := usesAddress) (preamble := preamble)
    hw hr
  have haddr : submitAddress (commandPayload tag pullOnly address opcode usesAddress preamble part
      readPart) = address := submitAddress_eq _ _ _ address _
  have hpull : (byteAt (commandPayload tag pullOnly address opcode usesAddress preamble part
      readPart) 2 == 1) = pullOnly := boolByte_eq_one pullOnly
  have hop : byteAt (commandPayload tag pullOnly address opcode usesAddress preamble part
      readPart) 7 = opcode := rfl
  have huses : (byteAt (commandPayload tag pullOnly address opcode usesAddress preamble part
      readPart) 8 == 1) = usesAddress := boolByte_eq_one usesAddress
  have hpre : (byteAt (commandPayload tag pullOnly address opcode usesAddress preamble part
      readPart) 9 == 1) = preamble := boolByte_eq_one preamble
  simp only [submitSlot, submitKind_command, hpull, haddr, hop, huses, hpre, hpart, hread,
    Window.translate]

/-- The first byte of a range in a window lies in the window. -/
theorem first_le {a n limit : Nat} (h1 : 1 ≤ n) (h : a + n - 1 ≤ limit) : a ≤ limit := by omega

/-- Settles O29: the payload read back, the checks passed, the acceptance spelled out. -/
theorem submitOfDataIsAccepted : Obligations.SubmitOfDataIsAccepted := by
  intro seq tag pullOnly address i lk s ho hlink hfree hopen hbase hroom
  refine ⟨fun n payload h1 h256 hlast hright hpayload hready => ?_,
    fun data payload h1 h256 hlast hright hpayload hready => ?_⟩
  · have haddr : submitAddress (readPayload tag pullOnly address n) = address :=
      submitAddress_eq _ _ _ address (le16 n)
    have hend : submitLast (readPayload tag pullOnly address n) = address.toNat + n - 1 := by
      rw [submitLast, submitKind_read, haddr, submitLength_read h256]
    obtain rfl : payload = readPayload tag pullOnly address n := hpayload
    refine exec_submit_good hready hlink (submitGood_read h1 h256)
      (Eq.trans (submitChecked_accepts (i := i) hfree ?_ ?_ ?_ hroom) ?_)
    · rw [haddr]
      exact findWindow_eq (s := { s with lk := lk }) ho hopen hbase (first_le h1 hlast)
    · rw [hend]
      exact hlast
    · exact hright
    · rw [acceptSubmit, submitSlot_read h256]
  · have haddr : submitAddress (writePayload tag pullOnly address data) = address :=
      submitAddress_eq _ _ _ address (le16 data.length ++ data)
    have hend : submitLast (writePayload tag pullOnly address data) =
        address.toNat + data.length - 1 := by
      rw [submitLast, submitKind_write, haddr, submitLength_write h256]
    obtain rfl : payload = writePayload tag pullOnly address data := hpayload
    refine exec_submit_good hready hlink (submitGood_write h1 h256)
      (Eq.trans (submitChecked_accepts (i := i) hfree ?_ ?_ ?_ hroom) ?_)
    · rw [haddr]
      exact findWindow_eq (s := { s with lk := lk }) ho hopen hbase (first_le h1 hlast)
    · rw [hend]
      exact hlast
    · exact hright
    · rw [acceptSubmit, submitSlot_write h256]
      rfl

/-- What check 7 asks of a COMMAND: the command right, and the write right for a write part (R6). -/
theorem allow_command {r : Rights} {part : List Byte} :
    r.allow .command part.length = true ↔ r.command = true ∧ (part = [] ∨ r.write = true) := by
  simp [Rights.allow]

/-- Settles O30. -/
theorem submitOfCommandIsAccepted : Obligations.SubmitOfCommandIsAccepted := by
  intro seq opcode tag pullOnly usesAddress preamble address part payload readPart i lk s ho hlink
    hfree hopen hbase hlimit hcommand hwrite hroom hw hr hpayload hready
  have haddr : submitAddress (commandPayload tag pullOnly address opcode usesAddress preamble part
      readPart) = address := submitAddress_eq _ _ _ address _
  have hneed : submitWriteNeed (commandPayload tag pullOnly address opcode usesAddress preamble part
      readPart) = part.length := (command_parts hw hr).1
  obtain rfl : payload = commandPayload tag pullOnly address opcode usesAddress preamble part
    readPart := hpayload
  refine exec_submit_good hready hlink (submitGood_command hw hr)
    (Eq.trans (submitChecked_accepts (i := i) hfree ?_ ?_ ?_ hroom) ?_)
  · rw [haddr]
    exact findWindow_eq (s := { s with lk := lk }) ho hopen hbase hlimit
  · rw [submitLast, submitKind_command, haddr]
    exact hlimit
  · rw [hneed, submitKind_command]
    exact allow_command.mpr ⟨hcommand, hwrite⟩
  · rw [acceptSubmit, submitSlot_command hw hr]

/-! ## Refusals -/

/-- A payload without tag and kind (R164). -/
theorem reqSubmit_short {payload : List Byte} {s : State} (hlink : s.link = .opened)
    (h : payload.length < 2) : reqSubmit payload s = (s, Reply.refusal .badLength) := by
  rw [reqSubmit, if_neg (by simp [hlink]), if_pos h]

theorem reqSubmit_badField {payload : List Byte} {s : State} (hlink : s.link = .opened)
    (h : 2 ≤ payload.length) (hf : ¬ submitFieldsOk payload = true) :
    reqSubmit payload s = (s, Reply.refusal .badArg) := by
  rw [reqSubmit, if_neg (by simp [hlink]), if_neg (by omega), if_pos (by simpa using hf)]

theorem reqSubmit_badLength {payload : List Byte} {s : State} (hlink : s.link = .opened)
    (h : 2 ≤ payload.length) (hf : submitFieldsOk payload = true)
    (hl : ¬ submitLengthsOk payload = true) :
    reqSubmit payload s = (s, Reply.refusal .badLength) := by
  rw [reqSubmit, if_neg (by simp [hlink]), if_neg (by omega), if_neg (by simp [hf]),
    if_pos (by simpa using hl)]

/-- Check 3 of each kind (R52, R164). -/
theorem submitLengthsOk_iff {payload : List Byte} (hk : (byteAt payload 1).toNat ≤ 2) :
    submitLengthsOk payload = true ↔
      ((byteAt payload 1).toNat = 0 → payload.length = 9 ∧ 1 ≤ submitLength payload ∧
        submitLength payload ≤ 256) ∧
      ((byteAt payload 1).toNat = 1 → 9 ≤ payload.length ∧ 1 ≤ submitLength payload ∧
        submitLength payload ≤ 256 ∧ payload.length = 9 + submitLength payload) ∧
      ((byteAt payload 1).toNat = 2 → 12 ≤ payload.length ∧ submitWritePart payload ≤ 16 ∧
        submitReadPart payload ≤ 16 ∧ payload.length = 12 + submitWritePart payload) := by
  have hcases : (byteAt payload 1).toNat = 0 ∨ (byteAt payload 1).toNat = 1 ∨
      (byteAt payload 1).toNat = 2 := by omega
  rcases hcases with h | h | h
  · have hkind : submitKind payload = .read := by
      rw [submitKind, show byteAt payload 1 = 0 from BitVec.eq_of_toNat_eq h]; rfl
    simp [submitLengthsOk, hkind, h, and_assoc]
  · have hkind : submitKind payload = .write := by
      rw [submitKind, show byteAt payload 1 = 1 from BitVec.eq_of_toNat_eq h]; rfl
    simp [submitLengthsOk, hkind, h, and_assoc]
  · have hkind : submitKind payload = .command := by
      rw [submitKind, show byteAt payload 1 = 2 from BitVec.eq_of_toNat_eq h]; rfl
    simp [submitLengthsOk, hkind, h, and_assoc]

/-- A payload of the shape of checks 2 and 3: good, with its address, its range's end and the rights
it needs (R5, R6). -/
theorem submitShape_reads {payload : List Byte} {tag : Tag} {address : Addr} {last : Nat}
    {need : Rights} (h : SubmitShape payload tag address last need) :
    SubmitGood payload tag ∧ submitAddress payload = address ∧ submitLast payload = last ∧
      ∀ r : Rights, r.allow (submitKind payload) (submitWriteNeed payload) = true ↔
        ¬ r.lack need := by
  obtain ⟨pullOnly, ⟨n, h1, h256, hp, rfl, rfl⟩ | ⟨data, h1, h256, hp, rfl, rfl⟩ |
    ⟨opcode, usesAddress, preamble, part, readPart, hw, hr, hp, rfl, rfl⟩⟩ := h
  · obtain rfl : payload = readPayload tag pullOnly address n := hp
    have haddr : submitAddress (readPayload tag pullOnly address n) = address :=
      submitAddress_eq _ _ _ address (le16 n)
    refine ⟨submitGood_read h1 h256, haddr, ?_, fun r => ?_⟩
    · rw [submitLast, submitKind_read, haddr, submitLength_read h256]
    · simp [submitKind_read, Rights.allow, Rights.lack]
  · obtain rfl : payload = writePayload tag pullOnly address data := hp
    have haddr : submitAddress (writePayload tag pullOnly address data) = address :=
      submitAddress_eq _ _ _ address (le16 data.length ++ data)
    refine ⟨submitGood_write h1 h256, haddr, ?_, fun r => ?_⟩
    · rw [submitLast, submitKind_write, haddr, submitLength_write h256]
    · simp [submitKind_write, Rights.allow, Rights.lack]
  · obtain rfl : payload = commandPayload tag pullOnly address opcode usesAddress preamble part
      readPart := hp
    have haddr : submitAddress (commandPayload tag pullOnly address opcode usesAddress preamble part
        readPart) = address := submitAddress_eq _ _ _ address _
    have hneed : submitWriteNeed (commandPayload tag pullOnly address opcode usesAddress preamble
        part readPart) = part.length := (command_parts hw hr).1
    refine ⟨submitGood_command hw hr, haddr, ?_, fun r => ?_⟩
    · rw [submitLast, submitKind_command, haddr]
    · rw [hneed, submitKind_command, allow_command]
      cases part <;> cases hc : r.command <;> cases hwr : r.write <;> simp [Rights.lack, hc, hwr]

/-- Settles O31: checks 1 to 3 on any payload, checks 4 to 8 on a good one. -/
theorem submitIsRefused : Obligations.SubmitIsRefused := by
  refine ⟨fun seq payload lk s hp hlink hready => ?_,
    fun seq payload tag address last need lk s hshape ho hlink hready => ?_⟩
  · intro refused field beyond badField length badLength
    have hexec {st : Status}
        (h : reqSubmit payload { s with lk := lk } = ({ s with lk := lk }, Reply.refusal st)) :
        refused st := exec_submit hready hp hlink h
    have hfields : submitFieldsOk payload = true ↔ ¬ badField := by
      rw [submitFieldsOk_iff]
      simp only [fieldAtMost_iff, badField, beyond, field]
      tauto
    refine ⟨fun h => hexec (reqSubmit_short hlink h), fun h hbad => hexec
      (reqSubmit_badField hlink h fun hf => hfields.mp hf hbad), fun h hok hbad => hexec
      (reqSubmit_badLength hlink h (hfields.mpr hok) fun hl => ?_)⟩
    have hkind : (byteAt payload 1).toNat ≤ 2 := by
      by_contra hk
      exact hok (.inr (.inl ⟨h, Nat.not_le.mp hk⟩))
    obtain ⟨hread, hwrite, hcommand⟩ := (submitLengthsOk_iff hkind).mp hl
    rcases hbad with ⟨hk, hbad⟩ | ⟨hk, hbad⟩ | ⟨hk, hbad⟩
    · obtain ⟨h9, hn, hn'⟩ := hread hk
      change payload.length ≠ 9 ∨ submitLength payload = 0 ∨ 256 < submitLength payload at hbad
      omega
    · obtain ⟨h9, hn, hn', hlen⟩ := hwrite hk
      change payload.length < 9 ∨ submitLength payload = 0 ∨ 256 < submitLength payload ∨
        payload.length ≠ 9 + submitLength payload at hbad
      omega
    · obtain ⟨h12, hn, hn', hlen⟩ := hcommand hk
      change payload.length < 12 ∨ 16 < submitWritePart payload ∨ 16 < submitReadPart payload ∨
        payload.length ≠ 12 + submitWritePart payload at hbad
      omega
  · intro refused
    obtain ⟨hgood, haddr, hlast, hallow⟩ := submitShape_reads hshape
    have hexec {st : Status} (h : submitChecked payload tag { s with lk := lk } =
        ({ s with lk := lk }, Reply.refusal st)) : refused st :=
      exec_submit_good hready hlink hgood h
    refine ⟨fun h => hexec (submitChecked_inUse h), fun hfree hnone => hexec
      (submitChecked_noWindow hfree ?_), fun i hfree hopen hb hl => ?_⟩
    · rw [haddr]
      exact findWindow_none (s := { s with lk := lk }) hnone
    · have hfound : findWindow (submitAddress payload) { s with lk := lk } = some i := by
        rw [haddr]
        exact findWindow_eq (s := { s with lk := lk }) ho hopen hb hl
      have hchecks := submitChecked_window (s := { s with lk := lk }) hfree hfound
      rw [hlast] at hchecks
      refine ⟨fun hr => hexec (hchecks.trans (if_pos hr)), fun hr hlack => hexec (hchecks.trans ?_),
        fun hr hlack hfull => hexec (hchecks.trans ?_)⟩
      · rw [if_neg (Nat.not_lt.mpr hr), if_pos]
        rw [Bool.not_eq_true', ← Bool.not_eq_true, hallow]
        exact not_not.mpr hlack
      · rw [if_neg (Nat.not_lt.mpr hr), if_neg, if_pos]
        · exact hfull
        · rw [Bool.not_eq_true', ← Bool.not_eq_true, not_not, hallow]
          exact hlack

end Sys2Proof.Machine
end

section
/-! PROOFS. COLLECT, ABORT, the queries of slots and lanes, and the requests of the Event Unit. -/

namespace Sys2Proof.Machine

/-! ## COLLECT and ABORT -/

theorem freeTagStatus_listed {tag : Tag} {s : State} (h : tag ∈ s.discards) :
    freeTagStatus tag s = .discarded := if_pos (by simpa using h)

theorem freeTagStatus_unlisted {tag : Tag} {s : State} (h : tag ∉ s.discards) :
    freeTagStatus tag s = .unknownTag := if_neg (by simpa using h)

/-- Settles O32: the slot's state decides. -/
theorem collectTakesTheResult : Obligations.CollectTakesTheResult := by
  intro seq s hlink
  refine ⟨fun tag hready => ?_, fun b h32 hready => ?_⟩
  · have hexec {u : State} {reply : Reply} (h : reqCollect [byteOf tag.val] s = (u, reply)) :=
      exec_openedRow (r := .collect) hready (by simp) hlink rfl rfl h
    refine ⟨fun hdone => hexec ?_, fun hlive => hexec ?_, fun hfree hlisted => hexec ?_,
      fun hgone => hexec ?_⟩
    · simp only [reqCollect, byteAt_cons_zero, indexOf_byteOf (show 32 ≤ 256 by decide), hdone]
      rfl
    · rcases hlive with h | h | h <;>
        simp only [reqCollect, byteAt_cons_zero, indexOf_byteOf (show 32 ≤ 256 by decide), h]
    · simp only [reqCollect, byteAt_cons_zero, indexOf_byteOf (show 32 ≤ 256 by decide), hfree,
        freeTagStatus_listed hlisted]
    · rcases hgone with ⟨hfree, hnot⟩ | horphan
      · simp only [reqCollect, byteAt_cons_zero, indexOf_byteOf (show 32 ≤ 256 by decide), hfree,
          freeTagStatus_unlisted hnot]
      · simp only [reqCollect, byteAt_cons_zero, indexOf_byteOf (show 32 ≤ 256 by decide), horphan]
  · refine exec_openedRow (r := .collect) hready (by simp) hlink rfl rfl ?_
    show reqCollect [b] s = _
    rw [reqCollect, byteAt_cons_zero, indexOf_none h32]

/-- The row of an ABORT in OPEN (R65; log 3). -/
theorem exec_abort {seq b : Byte} {lk : LkLevels} {s u : State} {reply : Reply}
    (hready : ReadyFor (requestFrame .abort seq [b]) s) (hlink : s.link = .opened)
    (h : reqAbort [b] { s with lk := lk } = (u, reply)) :
    exec (.abort seq [b] lk) s = .next (answeredWith (requestFrame .abort seq [b]) reply u) :=
  exec_served (r := .abort) hready (by simp) (by rw [hlink]; rfl) rfl h

section
variable {tag : Tag} {s : State}

theorem reqAbort_waiting (h : s.slots[tag.val].state = .queued ∨ s.slots[tag.val].state = .paused) :
    reqAbort [byteOf tag.val] s =
      (arbitrate (laneOf s.slots[tag.val].target) (enterDone tag .aborted s), Reply.ok) := by
  rcases h with h | h <;>
    simp only [reqAbort, byteAt_cons_zero, indexOf_byteOf (show 32 ≤ 256 by decide), h]

theorem reqAbort_active (h : s.slots[tag.val].state = .active) :
    reqAbort [byteOf tag.val] s = (setSlot tag s.slots[tag.val].abortAsked s, Reply.ok) := by
  simp only [reqAbort, byteAt_cons_zero, indexOf_byteOf (show 32 ≤ 256 by decide), h]

theorem reqAbort_done (h : s.slots[tag.val].state = .done) :
    reqAbort [byteOf tag.val] s = (s, Reply.refusal .tooLate) := by
  simp only [reqAbort, byteAt_cons_zero, indexOf_byteOf (show 32 ≤ 256 by decide), h]

theorem reqAbort_free (h : s.slots[tag.val].state = .free) :
    reqAbort [byteOf tag.val] s = (s, Reply.refusal (freeTagStatus tag s)) := by
  simp only [reqAbort, byteAt_cons_zero, indexOf_byteOf (show 32 ≤ 256 by decide), h]

theorem reqAbort_listed (h : s.slots[tag.val].state = .free) (hl : tag ∈ s.discards) :
    reqAbort [byteOf tag.val] s = (s, Reply.refusal .discarded) := by
  rw [reqAbort_free h, freeTagStatus_listed hl]

theorem reqAbort_unlisted (h : s.slots[tag.val].state = .free) (hl : tag ∉ s.discards) :
    reqAbort [byteOf tag.val] s = (s, Reply.refusal .unknownTag) := by
  rw [reqAbort_free h, freeTagStatus_unlisted hl]

theorem reqAbort_orphaned (h : s.slots[tag.val].state = .orphaned) :
    reqAbort [byteOf tag.val] s = (s, Reply.refusal .unknownTag) := by
  simp only [reqAbort, byteAt_cons_zero, indexOf_byteOf (show 32 ≤ 256 by decide), h]

end

/-- Settles O33: the slot's state decides. -/
theorem abortEndsATransaction : Obligations.AbortEndsATransaction := by
  intro seq lk s hlink
  refine ⟨fun tag hready => ?_, fun b h32 hready => exec_abort hready hlink ?_⟩
  · refine ⟨fun hwaits => exec_abort hready hlink (reqAbort_waiting hwaits),
      fun hact hflag => exec_abort hready hlink (Eq.trans (reqAbort_active hact) ?_),
      fun hact hflag => exec_abort hready hlink (Eq.trans (reqAbort_active hact) ?_),
      fun hdone => exec_abort hready hlink (reqAbort_done hdone),
      fun hfree hlisted => exec_abort hready hlink (reqAbort_listed hfree hlisted),
      fun hgone => exec_abort hready hlink ?_⟩
    · simp only [Slot.abortAsked, hflag, Bool.false_eq_true, if_false]
      rfl
    · simp only [Slot.abortAsked, hflag, if_true, setSlot, Vector.set_getElem_self]
    · rcases hgone with ⟨hfree, hnot⟩ | horphan
      · exact reqAbort_unlisted hfree hnot
      · exact reqAbort_orphaned horphan
  · rw [reqAbort, byteAt_cons_zero, indexOf_none h32]

/-! ## SLOT_QUERY and LANE_QUERY -/

/-- The byte of a tag is not 255, the index of the summary. -/
theorem byteOf_tag_ne (tag : Tag) : byteOf tag.val ≠ 255 := by
  intro h
  have h255 : (byteOf tag.val).toNat = 255 := by rw [h]; rfl
  have := byteOf_tag tag
  omega

/-- The byte of a lane's index is not 255, the index of the summary. -/
theorem byteOf_laneIx_ne (l : LaneIx) : byteOf l.val ≠ 255 := by
  intro h
  have hval : (byteOf l.val).toNat = l.val := byteOf_toNat l.val (by omega)
  have h255 : (byteOf l.val).toNat = 255 := by rw [h]; rfl
  omega

/-- The six items of a lane (R93). -/
theorem laneRecord_eq (l : LaneIx) (s : State) :
    laneRecord l s = [byteOf l.val, s.lanes[l.val].state.code, if s.lk[l.val] then 1 else 0,
      byteOf s.queues[(targetAt l 0).val].length, byteOf s.queues[(targetAt l 1).val].length,
      match s.lanes[l.val].access.bind Access.tag with
      | some tag => byteOf tag.val
      | none => 255] := by
  unfold laneRecord accessTagByte
  cases s.lanes[l.val].access with
  | none => rfl
  | some a => cases h : a.tag <;> simp [h, boolByte]

/-- The row of a LANE_QUERY in OPEN (R93; log 3). -/
theorem exec_laneQuery {seq b : Byte} {lk : LkLevels} {s : State} {reply : Reply}
    (hready : ReadyFor (requestFrame .laneQuery seq [b]) s) (hlink : s.link = .opened)
    (h : reqLaneQuery [b] { s with lk := lk } = ({ s with lk := lk }, reply)) :
    exec (.laneQuery seq [b] lk) s =
      .next (answeredWith (requestFrame .laneQuery seq [b]) reply { s with lk := lk }) :=
  exec_served (r := .laneQuery) hready (by simp) (by rw [hlink]; rfl) rfl h

/-- Settles O34. -/
theorem slotAndLaneQueriesRead : Obligations.SlotAndLaneQueriesRead := by
  intro seq lk s hlink
  have hslot {b : Byte} {reply : Reply} (hready : ReadyFor (requestFrame .slotQuery seq [b]) s)
      (h : reqSlotQuery [b] s = (s, reply)) :=
    exec_openedRow (r := .slotQuery) hready (by simp) hlink rfl rfl h
  refine ⟨fun tag hready => hslot hready ?_, fun hready => hslot hready ?_,
    fun b h32 h255 hready => hslot hready ?_, fun l hready => exec_laneQuery hready hlink ?_,
    fun hready => exec_laneQuery hready hlink ?_,
    fun b h4 h255 hready => exec_laneQuery hready hlink ?_⟩
  · rw [reqSlotQuery, byteAt_cons_zero, if_neg (byteOf_tag_ne tag), indexOf_byteOf (by decide)]
    rfl
  · rw [reqSlotQuery, byteAt_cons_zero, if_pos rfl, toList_finRange, List.map_map]
    rfl
  · rw [reqSlotQuery, byteAt_cons_zero, if_neg h255, indexOf_none h32]
  · rw [reqLaneQuery, byteAt_cons_zero, if_neg (byteOf_laneIx_ne l), indexOf_byteOf (by decide)]
    exact congrArg (fun fields => (_, Reply.okWith fields)) (laneRecord_eq l _)
  · rw [reqLaneQuery, byteAt_cons_zero, if_pos rfl]
    exact congrArg (fun fields => (_, Reply.okWith fields))
      (List.flatMap_congr fun l _ => laneRecord_eq l _)
  · rw [reqLaneQuery, byteAt_cons_zero, if_neg h255, indexOf_none h4]

/-! ## EVT_SET and EVT_ACK -/

/-- The source of a READY_LINE target's pin (R132 check 4). -/
theorem attnOfReadyLine_iff {e : SrcIx} {s : State} :
    attnOfReadyLine e s = true ↔ ∃ n : Target, n.val = e.val ∧ readyMethodAt n s = .readyLine := by
  unfold attnOfReadyLine
  constructor
  · intro h
    split at h
    · next he => exact ⟨⟨e.val, he⟩, rfl, by simpa using h⟩
    · cases h
  · rintro ⟨n, hn, hr⟩
    have he : e.val < 8 := hn ▸ n.isLt
    obtain rfl : n = ⟨e.val, he⟩ := Fin.ext hn
    simp [he, hr]

/-- EVT_SET with its index and its two bytes in range: a disable, or the checks of an enable
(R132, R133). -/
theorem reqEvtSet_source {e : SrcIx} {on mode : Byte} {s : State} (hon : on.toNat ≤ 1)
    (hmode : mode.toNat ≤ 1) :
    reqEvtSet [byteOf e.val, on, mode] s =
      if on = 0 then (disableSource e (clearModeOf mode) s, Reply.ok)
      else if s.sources[e.val].state ≠ .idle then (s, Reply.refusal .busy)
      else if attnOfReadyLine e s then (s, Reply.refusal .wrongState)
      else (enableSource e (clearModeOf mode) s, Reply.ok) := by
  rw [reqEvtSet, byteAt_cons_zero, indexOf_byteOf (by decide)]
  exact if_neg (by simp only [byteAt_cons_succ, byteAt_cons_zero]; omega)

theorem reqEvtSet_refused {b on mode : Byte} {s : State}
    (h : 16 ≤ b.toNat ∨ 1 < on.toNat ∨ 1 < mode.toNat) :
    reqEvtSet [b, on, mode] s = (s, Reply.refusal .badArg) := by
  rw [reqEvtSet, byteAt_cons_zero]
  by_cases h16 : 16 ≤ b.toNat
  · rw [indexOf_none h16]
  · have hix : indexOf? 16 b = some ⟨b.toNat, Nat.not_le.mp h16⟩ := dif_pos _
    rw [hix]
    exact if_pos (h.resolve_left h16)

/-- Settles O39. -/
theorem evtSetAndEvtAck : Obligations.EvtSetAndEvtAck := by
  refine ⟨fun seq on mode s hlink => ⟨fun b h hready => ?_, fun e hmode hready => ?_⟩,
    fun seq s hlink => ⟨fun e hready => ?_, fun b h16 hready => ?_⟩⟩
  · exact exec_openedRow (r := .evtSet) hready (by simp) hlink rfl rfl (reqEvtSet_refused h)
  · have hexec {u : State} {reply : Reply}
        (h : reqEvtSet [byteOf e.val, on, mode] s = (u, reply)) :=
      exec_openedRow (r := .evtSet) hready (by simp) hlink rfl rfl h
    refine ⟨fun hon => hexec ?_, fun hon hbusy => hexec ?_, fun n hon hidle hn hr => hexec ?_,
      fun hon hidle hn => hexec ?_⟩
    all_goals
      subst hon
      rw [reqEvtSet_source (by decide) hmode]
    · rfl
    · rw [if_neg (by decide), if_pos hbusy]
    · rw [if_neg (by decide), if_neg (not_not.mpr hidle),
        if_pos (attnOfReadyLine_iff.mpr ⟨n, hn, hr⟩)]
    · have hattn : ¬ attnOfReadyLine e s = true := fun h => by
        obtain ⟨n, he, hr⟩ := attnOfReadyLine_iff.mp h
        exact hn n he hr
      rw [if_neg (by decide), if_neg (not_not.mpr hidle), if_neg hattn]
      rfl
  · have hexec {u : State} {reply : Reply} (h : reqEvtAck [byteOf e.val] s = (u, reply)) :=
      exec_openedRow (r := .evtAck) hready (by simp) hlink rfl rfl h
    refine ⟨fun hrep hmore => hexec ?_, fun hrep hnone => hexec ?_, fun hnot => hexec ?_⟩
    · simp only [reqEvtAck, byteAt_cons_zero, indexOf_byteOf (show 16 ≤ 256 by decide), hrep,
        acknowledge, Source.acknowledged, if_pos hmore]
      rfl
    · simp only [reqEvtAck, byteAt_cons_zero, indexOf_byteOf (show 16 ≤ 256 by decide), hrep,
        acknowledge, Source.acknowledged, if_neg (Nat.not_lt.mpr hnone)]
      rfl
    · cases h : s.sources[e.val].state with
      | reported => exact absurd h hnot
      | _ => simp only [reqEvtAck, byteAt_cons_zero, indexOf_byteOf (show 16 ≤ 256 by decide), h]
  · refine exec_openedRow (r := .evtAck) hready (by simp) hlink rfl rfl ?_
    show reqEvtAck [b] s = _
    rw [reqEvtAck, byteAt_cons_zero, indexOf_none h16]

end Sys2Proof.Machine
end

section
/-! PROOFS. LANE_RESUME, whose grant may find other LKn levels than its checks. -/

namespace Sys2Proof.Machine

theorem chooseUnsolicited_keepingLevels (g : Option LkLevels) (s : State) :
    chooseUnsolicited { s with lkAtGrant := g } =
      { chooseUnsolicited s with lkAtGrant := g } := by
  have ho : offered { s with lkAtGrant := g } = offered s := rfl
  simp only [chooseUnsolicited, ho]
  split <;> try rfl
  split <;> rfl

/-- The transmitter's choice does not look at the levels kept for a grant. -/
theorem choose_keepingLevels (g : Option LkLevels) (s : State) :
    choose { s with lkAtGrant := g } = { choose s with lkAtGrant := g } := by
  by_cases hs : s.sending = none
  · by_cases hr : s.replies = []
    · by_cases hl : s.link = .opened ∧ 0 < s.credits
      · have hu := choose_unsolicited hs hr hl.1 hl.2
        have hu' := choose_unsolicited (s := { s with lkAtGrant := g }) hs hr hl.1 hl.2
        rw [hu, hu', chooseUnsolicited_keepingLevels]
      · simp only [choose, hs, hr, if_neg hl]
    · obtain ⟨f, rest, hr⟩ := List.exists_cons_of_ne_nil hr
      simp only [choose, hs, hr, chooseReply]
  · rw [choose_sending hs, choose_sending (s := { s with lkAtGrant := g }) hs]

/-- What an answered request leaves does not depend on the levels kept for a grant. -/
theorem answeredWith_lkAtGrant (f : Frame) (r : Reply) (g : Option LkLevels) (u : State) :
    answeredWith f r { u with lkAtGrant := g } = { answeredWith f r u with lkAtGrant := g } :=
  congrArg driveAlert (choose_keepingLevels g { u with replies := _, cache := _ })

/-- The row of a LANE_RESUME in OPEN: its block runs with the levels of the grant kept, and they are
dropped at its end (R89, log 3). -/
theorem exec_laneResume {seq b : Byte} {lk lkGrant : LkLevels} {s : State}
    (hready : ReadyFor (requestFrame .laneResume seq [b]) s) (hlink : s.link = .opened)
    (hlaw : GrantLevelsLaw s) :
    ∃ g : Option LkLevels, g.getD lk = lkGrant ∧
      ∀ {u v : State} {reply : Reply},
        reqLaneResume [b] { s with lk := lk, lkAtGrant := g } = (u, reply) →
        { u with lkAtGrant := none } = v →
        exec (.laneResume seq [b] lk lkGrant) s =
          .next (answeredWith (requestFrame .laneResume seq [b]) reply v) := by
  have hrun : s.inReset = false := hready.1
  have hrow : exec (.laneResume seq [b] lk lkGrant) s =
      if lk = lkGrant ∨ s.inReset = true then
        deliver (requestFrame .laneResume seq [b]) { s with lk := lk }
      else forgetGrantLevels (deliver (requestFrame .laneResume seq [b])
        { s with lk := lk, lkAtGrant := some lkGrant }) := by
    show execLaneResume seq [b] lk lkGrant s = _
    rw [execLaneResume, withLk_running hrun]
  have hserved {g : Option LkLevels} {u : State} {reply : Reply}
      (h : reqLaneResume [b] { s with lk := lk, lkAtGrant := g } = (u, reply)) :
      deliver (requestFrame .laneResume seq [b]) { s with lk := lk, lkAtGrant := g } =
        .next (answeredWith (requestFrame .laneResume seq [b]) reply u) := by
    refine Eq.trans (deliver_ready ?_ rfl) (congrArg Host.Outcome.next (executed_answered ?_))
    · exact hready
    · refine Eq.trans (answer_served ?_ rfl) h
      exact (congrArg (linkRefusal .laneResume) hlink).trans rfl
  by_cases hsame : lk = lkGrant
  · refine ⟨s.lkAtGrant, by rw [hlaw]; exact hsame, fun {u v reply} h hv => ?_⟩
    have hforgets : u.lkAtGrant = none := by
      have hkept := (changes_reqLaneResume (payload := [b]) (s := { s with lk := lk })).linkKept.levels
      rw [show reqLaneResume [b] { s with lk := lk } = (u, reply) from h] at hkept
      exact hkept.elim (fun hu => hu.trans hlaw) id
    rw [hrow, if_pos (.inl hsame), hserved h, ← hv, ← hforgets]
  · refine ⟨some lkGrant, rfl, fun {u v reply} h hv => ?_⟩
    rw [hrow, if_neg (by simp [hsame, hrun]), hserved h, ← hv,
      answeredWith_lkAtGrant (g := none) (u := u)]
    rfl

section
variable {l : LaneIx} {s : State}

theorem reqLaneResume_notFaulted (h : s.lanes[l.val].state ≠ .faulted) :
    reqLaneResume [byteOf l.val] s = (s, Reply.refusal .wrongState) := by
  rw [reqLaneResume, byteAt_cons_zero, indexOf_byteOf (by decide)]
  exact if_pos h

theorem reqLaneResume_low (h : s.lanes[l.val].state = .faulted) (hlk : s.lk[l.val] = false) :
    reqLaneResume [byteOf l.val] s = (s, Reply.refusal .busy) := by
  rw [reqLaneResume, byteAt_cons_zero, indexOf_byteOf (by decide)]
  exact (if_neg (not_not.mpr h)).trans (if_pos (by simp [hlk]))

theorem reqLaneResume_high (h : s.lanes[l.val].state = .faulted) (hlk : s.lk[l.val] = true) :
    reqLaneResume [byteOf l.val] s =
      (arbitrate l (setLane l { s.lanes[l.val] with state := .idle } (grantLevels s)), Reply.ok) := by
  rw [reqLaneResume, byteAt_cons_zero, indexOf_byteOf (by decide)]
  exact (if_neg (not_not.mpr h)).trans (if_neg (by simp [hlk]))

end

/-- The state that the grant of a LANE_RESUME finds (R89, log 3). -/
theorem grantLevels_eq {g : Option LkLevels} {lk lkGrant : LkLevels} {s : State}
    (hlaw : s.lkAtGrant = none) (hg : g.getD lk = lkGrant) :
    grantLevels { s with lk := lk, lkAtGrant := g } = { s with lk := lkGrant } := by
  rw [grantLevels, ← hg, ← hlaw]

/-- An arbitration finds no levels kept where none are. -/
theorem arbitrate_noLevels {l : LaneIx} {s : State} (h : s.lkAtGrant = none) :
    { arbitrate l s with lkAtGrant := none } = arbitrate l s := by
  have hkept : (arbitrate l s).lkAtGrant = none :=
    (changes_arbitrate l s).linkKept.levels.elim (fun hu => hu.trans h) id
  rw [← hkept]

/-- Settles O35: the two checks, then the arbitration with the levels of the grant. -/
theorem laneResumeClearsAFault : Obligations.LaneResumeClearsAFault := by
  intro seq lk lkGrant s hlink hlaw
  have hnone : s.lkAtGrant = none := hlaw
  have hforget (g : Option LkLevels) :
      { { s with lk := lk, lkAtGrant := g } with lkAtGrant := none } = { s with lk := lk } := by
    rw [← hnone]
  refine ⟨fun l hready => ?_, fun b h4 hready => ?_⟩
  · obtain ⟨g, hg, hexec⟩ := exec_laneResume (lk := lk) (lkGrant := lkGrant) hready hlink hlaw
    refine ⟨fun hne => hexec (reqLaneResume_notFaulted hne) (hforget g),
      fun hf hlow => hexec (reqLaneResume_low hf hlow) (hforget g),
      fun hf hhigh => hexec (reqLaneResume_high hf hhigh) ?_⟩
    rw [grantLevels_eq hnone hg]
    exact arbitrate_noLevels hnone
  · obtain ⟨g, -, hexec⟩ := exec_laneResume (lk := lk) (lkGrant := lkGrant) hready hlink hlaw
    refine hexec ?_ (hforget g)
    rw [reqLaneResume, byteAt_cons_zero, indexOf_none h4]

end Sys2Proof.Machine
end

section
/-! PROOFS. CFG_IMAGE and what a snapshot of the tables holds. -/

namespace Sys2Proof.Machine

/-! ## CFG_IMAGE -/

/-- The offset and the count of a CFG_IMAGE payload (R188). -/
theorem cfgImage_numbers {offset n : Nat} (ho : offset < 65536) (hn : n < 65536) :
    u16At (le16 offset ++ le16 n) 0 = offset ∧ u16At (le16 offset ++ le16 n) 2 = n := by
  have hlast := u16At_le16 n hn []
  rw [List.append_nil] at hlast
  exact ⟨u16At_le16 offset ho _, hlast⟩

section
variable {offset n : Nat} {s : State}

theorem reqCfgImage_badCount (ho : offset < 65536) (hn : n < 65536) (h : n = 0 ∨ 256 < n) :
    reqCfgImage (le16 offset ++ le16 n) s = (s, Reply.refusal .badArg) := by
  obtain ⟨hoff, hcount⟩ := cfgImage_numbers ho hn
  rw [reqCfgImage, hcount]
  exact if_pos (by omega)

/-- Offset 0 takes a new snapshot, where it is long enough (R188). -/
theorem reqCfgImage_new (hn : n < 65536) (h1 : 1 ≤ n) (h256 : n ≤ 256) :
    reqCfgImage (le16 0 ++ le16 n) s =
      if (buildSnapshot s).length < n then (s, Reply.refusal .range)
      else ({ s with snapshot := some (buildSnapshot s) }, imageReply (buildSnapshot s) 0 n) := by
  obtain ⟨hoff, hcount⟩ := cfgImage_numbers (show 0 < 65536 by decide) hn
  rw [reqCfgImage, hcount, hoff]
  exact (if_neg (by omega)).trans (if_pos rfl)

theorem reqCfgImage_noSnapshot (ho : offset < 65536) (hn : n < 65536) (h1 : 1 ≤ n) (h256 : n ≤ 256)
    (h0 : offset ≠ 0) (hs : s.snapshot = none) :
    reqCfgImage (le16 offset ++ le16 n) s = (s, Reply.refusal .wrongState) := by
  obtain ⟨hoff, hcount⟩ := cfgImage_numbers ho hn
  rw [reqCfgImage, hcount, hoff, hs]
  exact (if_neg (by omega)).trans (if_neg h0)

/-- A later offset reads the snapshot held, where it holds the bytes (R188). -/
theorem reqCfgImage_held {img : List Byte} (ho : offset < 65536) (hn : n < 65536) (h1 : 1 ≤ n)
    (h256 : n ≤ 256) (h0 : offset ≠ 0) (hs : s.snapshot = some img) :
    reqCfgImage (le16 offset ++ le16 n) s =
      if img.length < offset + n then (s, Reply.refusal .range)
      else (s, imageReply img offset n) := by
  obtain ⟨hoff, hcount⟩ := cfgImage_numbers ho hn
  rw [reqCfgImage, hcount, hoff, hs]
  exact (if_neg (by omega)).trans (if_neg h0)

end

/-! ## Records one after another -/

section
variable {n c : Nat} {f : Fin n → Option (List Byte)}

/-- The number of records of a run of indices. -/
theorem length_records {l : List (Fin n)} (h : ∀ i r, f i = some r → r.length = c) :
    (l.filterMap f).flatten.length = c * l.countP fun i => (f i).isSome := by
  induction l with
  | nil => simp
  | cons i l ih =>
    cases hi : f i with
    | none => simp [hi, ih]
    | some r => simp [hi, ih, h i r hi, Nat.mul_add, Nat.add_comm]

/-- The indices below an index stand before it. -/
theorem countP_below {i : Fin n} {l l' : List (Fin n)} (p : Fin n → Bool)
    (h : List.finRange n = l ++ i :: l') :
    (List.finRange n).countP (fun j => p j && decide (j < i)) = l.countP p := by
  have hsorted := List.pairwise_lt_finRange n
  rw [h, List.pairwise_append, List.pairwise_cons] at hsorted
  obtain ⟨-, ⟨hafter, -⟩, hbefore⟩ := hsorted
  rw [h, List.countP_append, List.countP_cons]
  have hl : l.countP (fun j => p j && decide (j < i)) = l.countP p :=
    List.countP_congr fun j hj => by simp [hbefore j hj i (List.mem_cons_self ..)]
  have hl' : l'.countP (fun j => p j && decide (j < i)) = 0 :=
    List.countP_eq_zero.mpr fun j hj => by simp [(hafter j hj).le]
  simp [hl, hl']

/-- The record of an index stands behind those of the indices below it that have one. -/
theorem record_at {i : Fin n} {r : List Byte} {rest : List Byte}
    (h : ∀ i r, f i = some r → r.length = c) (hi : f i = some r) :
    ((((List.finRange n).filterMap f).flatten ++ rest).drop
        (c * (List.finRange n).countP fun j => (f j).isSome && decide (j < i))).take c = r := by
  obtain ⟨l, l', hl⟩ := List.append_of_mem (List.mem_finRange i)
  rw [countP_below (fun j => (f j).isSome) hl, ← length_records (l := l) h, hl,
    List.filterMap_append, List.filterMap_cons_some hi, List.flatten_append, List.flatten_cons,
    List.append_assoc, List.drop_left, List.append_assoc, ← h i r hi, List.take_left]

end

/-! ## The snapshot -/

/-- The record of a target's profile (R187). -/
def profileRow (s : State) (t : Target) : Option (List Byte) :=
  (s.profiles[t.val]).map fun p => byteOf t.val :: p.bytes

/-- The record of a window not FREE (R187). -/
def windowRow (s : State) (i : WinIx) : Option (List Byte) :=
  if s.windows[i.val].state = .free then none else some (s.windows[i.val].imageRecord i)

theorem snapshotProfiles_eq (s : State) :
    snapshotProfiles s = (List.finRange 8).filterMap (profileRow s) := rfl

theorem snapshotWindows_eq (s : State) :
    snapshotWindows s = (List.finRange 16).filterMap (windowRow s) := rfl

theorem length_profileRow {s : State} (t : Target) (r : List Byte) (h : profileRow s t = some r) :
    r.length = 15 := by
  obtain ⟨p, -, rfl⟩ := Option.map_eq_some_iff.mp h
  rfl

theorem length_windowRow {s : State} (i : WinIx) (r : List Byte) (h : windowRow s i = some r) :
    r.length = 16 := by
  unfold windowRow at h
  split at h
  · cases h
  · cases h
    rfl

theorem profileRow_isSome (s : State) (t : Target) :
    (profileRow s t).isSome = (s.profiles[t.val]).isSome := Option.isSome_map

theorem windowRow_isSome (s : State) (i : WinIx) :
    (windowRow s i).isSome = (s.windows[i.val].state != .free) := by
  unfold windowRow
  by_cases h : s.windows[i.val].state = .free <;> simp [h]

/-- The bytes of an image, added up (R178). -/
theorem sum16_eq (bytes : List Byte) : sum16 bytes = (bytes.map BitVec.toNat).sum % 65536 := by
  rw [sum16, List.sum_eq_foldl, List.foldl_map]

/-- The header of a snapshot (R187). -/
def snapshotHeader (s : State) : List Byte :=
  [0x4F, 0x43, 1, byteOf (snapshotProfiles s).length, byteOf (snapshotWindows s).length]

/-- The parts of a snapshot in their order (R187). -/
theorem buildSnapshot_eq (s : State) :
    buildSnapshot s = snapshotHeader s ++ ((snapshotProfiles s).flatten ++
      ((snapshotWindows s).flatten ++ le16 (sum16 (snapshotBody s)))) := by
  simp [buildSnapshot, snapshotBody, snapshotHeader]

/-- The number of SET profiles and of windows not FREE (R187). -/
theorem snapshot_counts (s : State) :
    (snapshotProfiles s).length = (List.finRange 8).countP (fun n => (s.profiles[n.val]).isSome) ∧
      (snapshotWindows s).length =
        (List.finRange 16).countP fun i => s.windows[i.val].state != .free := by
  rw [snapshotProfiles_eq, snapshotWindows_eq, List.length_filterMap_eq_countP,
    List.length_filterMap_eq_countP]
  simp only [profileRow_isSome, windowRow_isSome, and_self]

theorem length_snapshotProfiles (s : State) :
    (snapshotProfiles s).flatten.length =
      15 * (List.finRange 8).countP fun n => (s.profiles[n.val]).isSome := by
  rw [snapshotProfiles_eq, length_records length_profileRow]
  simp only [profileRow_isSome]

theorem length_snapshotWindows (s : State) :
    (snapshotWindows s).flatten.length =
      16 * (List.finRange 16).countP fun i => s.windows[i.val].state != .free := by
  rw [snapshotWindows_eq, length_records length_windowRow]
  simp only [windowRow_isSome]

/-- A SET profile's record stands behind the header and those of the targets below it (R187). -/
theorem snapshot_profile {s : State} {n : Target} {r : Profile} (h : s.profiles[n.val] = some r) :
    ((buildSnapshot s).drop (5 + 15 *
      (List.finRange 8).countP fun m => (s.profiles[m.val]).isSome && decide (m < n))).take 15 =
      byteOf n.val :: r.bytes := by
  have hrow : profileRow s n = some (byteOf n.val :: r.bytes) := by rw [profileRow, h]; rfl
  have hat := record_at (rest := (snapshotWindows s).flatten ++ le16 (sum16 (snapshotBody s)))
    length_profileRow hrow
  simp only [profileRow_isSome] at hat
  rw [buildSnapshot_eq, snapshotProfiles_eq, ← List.drop_drop]
  exact hat

/-- A window's record stands behind the profiles' and those of the windows below it (R187). -/
theorem snapshot_window {s : State} {i : WinIx} (h : s.windows[i.val].state ≠ .free) :
    ((buildSnapshot s).drop (5 + 15 * ((List.finRange 8).countP fun m => (s.profiles[m.val]).isSome) +
      16 * (List.finRange 16).countP fun j =>
        s.windows[j.val].state != .free && decide (j < i))).take 16 =
      s.windows[i.val].imageRecord i := by
  have hrow : windowRow s i = some (s.windows[i.val].imageRecord i) := if_neg h
  have hat := record_at (rest := le16 (sum16 (snapshotBody s))) length_windowRow hrow
  simp only [windowRow_isSome] at hat
  rw [buildSnapshot_eq, ← List.drop_drop, ← List.drop_drop, ← length_snapshotProfiles]
  have hhead : (snapshotHeader s ++ ((snapshotProfiles s).flatten ++ ((snapshotWindows s).flatten ++
      le16 (sum16 (snapshotBody s))))).drop 5 = (snapshotProfiles s).flatten ++
        ((snapshotWindows s).flatten ++ le16 (sum16 (snapshotBody s))) := rfl
  rw [hhead, List.drop_left]
  exact hat

/-- The image record of a window (R21, Table 9-3). -/
theorem imageRecord_eq (i : WinIx) (w : Window) :
    w.imageRecord i = [byteOf i.val, if w.state = .opened then 1 else 0,
      (if w.rights.read then 1 else 0) + (if w.rights.write then 2 else 0) +
        (if w.rights.command then 4 else 0),
      byteOf w.target.val] ++ le32 w.base ++ le32 w.limit ++ le32 w.offset := by
  simp [Window.imageRecord, boolByte, Rights.code]

/-- The trailer is the sum of what stands before it (R178). -/
theorem snapshot_trailer (s : State) :
    (buildSnapshot s).drop ((buildSnapshot s).length - 2) =
      le16 ((((buildSnapshot s).take ((buildSnapshot s).length - 2)).map BitVec.toNat).sum %
        65536) := by
  have hlen : (buildSnapshot s).length - 2 = (snapshotBody s).length := by
    simp [buildSnapshot, le16]
  rw [hlen, buildSnapshot, List.drop_left, List.take_left, sum16_eq]

/-- Settles O41. -/
theorem cfgImageExportsTheTables : Obligations.CfgImageExportsTheTables := by
  refine ⟨fun seq offset n payload s ho hn hpayload hready hlink => ?_, fun s => ?_⟩
  · subst hpayload
    have hexec {u : State} {reply : Reply} (h : reqCfgImage (le16 offset ++ le16 n) s = (u, reply)) :=
      exec_openedRow (r := .cfgImage) hready (by simp [le16]) hlink rfl rfl h
    refine ⟨fun h => hexec (reqCfgImage_badCount ho hn h), fun h1 h256 h0 => ?_,
      fun h1 h256 h0 hs => hexec (reqCfgImage_noSnapshot ho hn h1 h256 h0 hs),
      fun img h1 h256 h0 hs => ?_⟩
    · subst h0
      have hnew := reqCfgImage_new (s := s) hn h1 h256
      exact ⟨fun hshort => hexec (hnew.trans (if_pos hshort)),
        fun hlong => hexec (hnew.trans (if_neg (Nat.not_lt.mpr hlong)))⟩
    · have hheld := reqCfgImage_held ho hn h1 h256 h0 hs
      exact ⟨fun hshort => hexec (hheld.trans (if_pos hshort)),
        fun hlong => hexec (hheld.trans (if_neg (Nat.not_lt.mpr hlong)))⟩
  · intro img set used p w
    obtain ⟨hp, hw⟩ : (snapshotProfiles s).length = p ∧ (snapshotWindows s).length = w :=
      snapshot_counts s
    refine ⟨?_, ?_, fun n r hr => snapshot_profile hr, fun i hi => ?_, snapshot_trailer s⟩
    · show (buildSnapshot s).length = _
      rw [buildSnapshot_eq, List.length_append, List.length_append, List.length_append,
        length_snapshotProfiles, length_snapshotWindows]
      show 5 + (15 * p + (16 * w + 2)) = _
      omega
    · show (buildSnapshot s).take 5 = [0x4F, 0x43, 1, byteOf p, byteOf w]
      rw [← hp, ← hw, buildSnapshot_eq]
      rfl
    · exact (snapshot_window hi).trans (imageRecord_eq i _)

end Sys2Proof.Machine
end

section
/-! PROOFS. The ends of an access: uncut, under a request flag, of an orphan, and cut. -/

namespace Sys2Proof.Machine

/-! ## The row of an access end -/

/-- The uncut end of a slot's access: the report is taken, the lane is IDLE and arbitrates (R82). -/
theorem exec_accessEnd {l : LaneIx} {tag : Tag} {a : Access} {data : List Byte} {lk : LkLevels}
    {s u : State} (hrun : s.inReset = false) (ha : s.lanes[l.val].access = some a)
    (htag : a.tag = some tag)
    (h : uncutReport tag a.accessType (sampledBytes a.bytesIn data s.freeCount)
      { s with lk := lk, freeCount := s.freeCount + (a.bytesIn - data.length) } = u) :
    exec (.accessEnd l data lk) s = .next (afterEvent (arbitrate l (laneIdle l u))) := by
  have hexec : exec (.accessEnd l data lk) s =
      whileRunning s (endAccess l data (withLk lk s)) := rfl
  have ha' : ({ s with lk := lk } : State).lanes[l.val].access = some a := ha
  rw [hexec, whileRunning_running hrun, withLk_running hrun, endAccess, ha']
  simp only [htag]
  rw [← h]
  rfl

theorem setSlot_self (tag : Tag) (s : State) : setSlot tag s.slots[tag.val] s = s := by
  simp [setSlot]

/-! ## Reports -/

section
variable {tag : Tag} {type : AccessType} {bytes : List Byte} {p : Profile} {s : State}

/-- An ACTIVE slot's report is taken under its target's profile (R63). -/
theorem uncutReport_active (h : s.slots[tag.val].state = .active)
    (hp : s.profiles[(s.slots[tag.val].target).val] = some p) :
    uncutReport tag type bytes s = endActive tag type bytes p s := by
  simp only [uncutReport, h, hp]

/-- An ORPHANED slot's report frees it (R71). -/
theorem uncutReport_orphaned (h : s.slots[tag.val].state = .orphaned) :
    uncutReport tag type bytes s =
      lowerCount s.slots[tag.val].window { s with slots := s.slots.set tag.val Slot.freed } := by
  simp only [uncutReport, h]
  rfl

/-- A data access of a slot without a request flag (R58, R59, R60). -/
theorem endActive_data (ht : type = .read ∨ type = .writePiece ∨ type = .command)
    (hab : s.slots[tag.val].abortRequested = false)
    (hfl : s.slots[tag.val].flushRequested = false) :
    endActive tag type bytes p s = dataEnds tag bytes p s := by
  rcases ht with rfl | rfl | rfl <;>
    simp only [endActive, hab, hfl, Bool.false_eq_true, if_false]

/-- A status poll of a slot without a request flag (R55). -/
theorem endActive_poll (hab : s.slots[tag.val].abortRequested = false)
    (hfl : s.slots[tag.val].flushRequested = false) :
    endActive tag .statusPoll bytes p s = pollEnds tag bytes p s := by
  simp only [endActive, hab, hfl, Bool.false_eq_true, if_false]

/-- Under a request flag the access counts and the slot ends (R63). -/
theorem endActive_flagged {status : CompStatus}
    (h : (s.slots[tag.val].abortRequested = true ∧ status = .aborted) ∨
      (s.slots[tag.val].abortRequested = false ∧ s.slots[tag.val].flushRequested = true ∧
        status = .flushed)) :
    endActive tag type bytes p s =
      enterDone tag status (setSlot tag (s.slots[tag.val].flaggedEnd type bytes p.pageCode) s) := by
  rcases h with ⟨hab, rfl⟩ | ⟨hab, hfl, rfl⟩
  · simp only [endActive, hab, if_true]
  · simp only [endActive, hab, hfl, Bool.false_eq_true, if_false, if_true]

theorem counted_read {sl : Slot} {code : Nat} (h : sl.kind = .read) :
    sl.counted bytes code = { sl with progress := sl.length, result := bytes } := by
  simp only [Slot.counted, h]

theorem counted_write {sl : Slot} {code : Nat} (h : sl.kind = .write) :
    sl.counted bytes code = { sl with progress := sl.progress + sl.pieceLength code } := by
  simp only [Slot.counted, h]

theorem counted_command {sl : Slot} {code : Nat} (h : sl.kind = .command) :
    sl.counted bytes code = { sl with progress := 1, result := bytes } := by
  simp only [Slot.counted, h]

theorem closeData_none {sl : Slot} (h : p.readyMethod = .none) :
    closeData tag p sl s = enterDone tag .success (setSlot tag { sl with phase := .postcheck } s) := by
  simp only [closeData, h]

theorem closeData_checked {sl : Slot} (h : p.readyMethod ≠ .none) :
    closeData tag p sl s = setSlot tag { sl with phase := .postcheck, state := .queued } s := by
  unfold closeData
  cases hr : p.readyMethod with
  | none => exact absurd hr h
  | statusPoll => rfl
  | readyLine => rfl

/-- The end of a READ's data (R58). -/
theorem dataEnds_read (h : s.slots[tag.val].kind = .read) :
    dataEnds tag bytes p s = enterDone tag .success { s with
      slots := s.slots.set tag.val
        { s.slots[tag.val] with progress := s.slots[tag.val].length, result := bytes } } := by
  simp only [dataEnds, counted_read h, h]
  rfl

/-- The end of a WRITE piece: the next piece, or the end of the data (R59). -/
theorem dataEnds_write (h : s.slots[tag.val].kind = .write) :
    dataEnds tag bytes p s =
      if s.slots[tag.val].nextPiece < s.slots[tag.val].piecesTotal then
        { s with
          slots := s.slots.set tag.val { s.slots[tag.val] with
            progress := s.slots[tag.val].progress + s.slots[tag.val].pieceLength p.pageCode
            nextPiece := s.slots[tag.val].nextPiece + 1, phase := .precheck, state := .queued } }
      else closeData tag p { s.slots[tag.val] with
        progress := s.slots[tag.val].progress + s.slots[tag.val].pieceLength p.pageCode } s := by
  simp only [dataEnds, counted_write h, h]
  rfl

/-- The end of a COMMAND's data (R60). -/
theorem dataEnds_command (h : s.slots[tag.val].kind = .command) :
    dataEnds tag bytes p s =
      closeData tag p { s.slots[tag.val] with progress := 1, result := bytes } s := by
  simp only [dataEnds, counted_command h, h]

end

/-! ## Uncut ends -/

/-- The bytes that a READ samples (R36). -/
theorem dataAccess_read_bytesIn {sel : Fin 2} {tag : Tag} {p : Profile} {sl : Slot}
    (h : sl.kind = .read) : (dataAccess sel tag p sl).bytesIn = sl.length := by
  simp [dataAccess, h, Access.bytesIn, readPeriods, BusPhase.bytesIn]

/-- Settles O45. -/
theorem readEndsWithItsBytes : Obligations.ReadEndsWithItsBytes := by
  intro l tag a p data lk s hrun ha htag htype hact hkind hab hfl hp
  refine ⟨exec_accessEnd hrun ha htag ?_, fun sel sl h => dataAccess_read_bytesIn h⟩
  rw [htype]
  exact Eq.trans (uncutReport_active hact hp)
    (Eq.trans (endActive_data (.inl rfl) hab hfl) (dataEnds_read hkind))

/-- Settles O46: the kind, the piece and the ready method decide. -/
theorem writeAndCommandEndsGoOn : Obligations.WriteAndCommandEndsGoOn := by
  intro l tag a p data lk s hrun ha htag hact hab hfl hp sl s' written issued ends
  have hdata {u : State} (ht : a.accessType = .writePiece ∨ a.accessType = .command)
      (h : dataEnds tag (sampledBytes a.bytesIn data s.freeCount) p s' = u) : ends u :=
    exec_accessEnd hrun ha htag (Eq.trans (uncutReport_active hact hp)
      (Eq.trans (endActive_data (.inr ht) hab hfl) h))
  refine ⟨fun ht hkind => ?_, fun ht hkind => ?_⟩
  · have hwrite : dataEnds tag (sampledBytes a.bytesIn data s.freeCount) p s' = _ :=
      dataEnds_write hkind
    refine ⟨fun hmore => hdata (.inl ht) (hwrite.trans (if_pos hmore)),
      fun hlast hr => hdata (.inl ht) (hwrite.trans ((if_neg (Nat.not_lt.mpr hlast)).trans ?_)),
      fun hlast hr => hdata (.inl ht) (hwrite.trans ((if_neg (Nat.not_lt.mpr hlast)).trans ?_))⟩
    · exact closeData_none hr
    · exact closeData_checked hr
  · have hcommand : dataEnds tag (sampledBytes a.bytesIn data s.freeCount) p s' = _ :=
      dataEnds_command hkind
    exact ⟨fun hr => hdata (.inr ht) (hcommand.trans (closeData_none hr)),
      fun hr => hdata (.inr ht) (hcommand.trans (closeData_checked hr))⟩

/-- The status byte of a poll: the first byte driven, or a free value (R39, log 6). -/
theorem byteAt_sampled (data : List Byte) (n : Nat) :
    byteAt (sampledBytes 1 data n) 0 = data.headD (Config.undrivenByte n) := by
  cases data with
  | nil => rfl
  | cons b data => rfl

/-- The verdict of a poll that found its target busy (R56). -/
theorem pollEnds_busy {tag : Tag} {bytes : List Byte} {p : Profile} {s : State}
    (h : byteAt bytes 0 &&& p.busyMask ≠ 0) : pollEnds tag bytes p s = busyVerdict tag p s :=
  if_pos (by simpa [pollBusy] using h)

/-- The verdict of a poll that found its target ready (R55). -/
theorem pollEnds_ready {tag : Tag} {bytes : List Byte} {p : Profile} {s : State}
    (h : byteAt bytes 0 &&& p.busyMask = 0) :
    (s.slots[tag.val].phase = .precheck → pollEnds tag bytes p s =
      setSlot tag { s.slots[tag.val] with phase := .data, state := .queued } s) ∧
    (s.slots[tag.val].phase = .postcheck → pollEnds tag bytes p s = enterDone tag .success s) := by
  have hready : ¬ pollBusy p bytes = true := by simp [pollBusy, h]
  constructor <;> intro hph <;> simp only [pollEnds, if_neg hready, hph]

/-- Settles O47: the status byte, then the retry limit or the phase. -/
theorem pollEndGivesItsVerdict : Obligations.PollEndGivesItsVerdict := by
  intro l tag a p data lk s hrun ha htag htype hbytes hact hab hfl hp sl status s' ends
  have hpoll {u : State} (h : pollEnds tag (sampledBytes 1 data s.freeCount) p s' = u) : ends u := by
    refine exec_accessEnd hrun ha htag ?_
    rw [htype, hbytes]
    exact Eq.trans (uncutReport_active hact hp) (Eq.trans (endActive_poll hab hfl) h)
  have hstatus : byteAt (sampledBytes 1 data s.freeCount) 0 = status := byteAt_sampled data _
  refine ⟨fun hbusy hless => hpoll ?_, fun hbusy hmore => hpoll ?_, fun hready hph => hpoll ?_,
    fun hready hph => hpoll ?_⟩
  · exact (pollEnds_busy (by rw [hstatus]; exact hbusy)).trans (if_neg (Nat.not_lt.mpr hless))
  · exact (pollEnds_busy (by rw [hstatus]; exact hbusy)).trans (if_pos hmore)
  · exact (pollEnds_ready (by rw [hstatus]; exact hready)).1 hph
  · exact (pollEnds_ready (by rw [hstatus]; exact hready)).2 hph

/-- Settles O48: the flags and the kind decide for an ACTIVE slot; an orphan is freed. -/
theorem flaggedAndOrphanedEnds : Obligations.FlaggedAndOrphanedEnds := by
  intro l tag a data lk s hrun ha htag sl bytes s' ends
  have hends {u : State} (h : uncutReport tag a.accessType bytes s' = u) : ends u :=
    exec_accessEnd hrun ha htag h
  refine ⟨fun p status hact hp hflag => ?_, fun h => hends (uncutReport_orphaned h)⟩
  have hflagged : uncutReport tag a.accessType bytes s' =
      enterDone tag status (setSlot tag (sl.flaggedEnd a.accessType bytes p.pageCode) s') :=
    Eq.trans (uncutReport_active hact hp) (endActive_flagged hflag)
  refine ⟨fun ht => hends (hflagged.trans ?_), fun ht hkind => hends (hflagged.trans ?_),
    fun ht hkind => hends (hflagged.trans ?_), fun ht hkind => hends (hflagged.trans ?_)⟩
  · rw [ht]
    exact congrArg (enterDone tag status) (setSlot_self tag s')
  · rw [ht, Slot.flaggedEnd, counted_read hkind]
    rfl
  · rw [ht, Slot.flaggedEnd, counted_write hkind]
    rfl
  · rw [ht, Slot.flaggedEnd, counted_command hkind]
    rfl

/-! ## Cut ends -/

theorem exec_laneFault {l : LaneIx} {lk : LkLevels} {s : State} (hrun : s.inReset = false) :
    exec (.laneFault l lk) s = .next (afterEvent (cutAccess l { s with lk := lk })) := by
  have hexec : exec (.laneFault l lk) s = whileRunning s (cutAccess l (withLk lk s)) := rfl
  rw [hexec, whileRunning_running hrun, withLk_running hrun]

/-- The lane of a cut access: FAULTED, or IDLE after RESETTING (R84, R91). -/
def laneCut (l : LaneIx) (s : State) : State :=
  { s with
    lanes := s.lanes.set l.val
      { s.lanes[l.val] with
        state := if s.lanes[l.val].state = .resetting then .idle else .faulted
        access := none } }

/-- The cut of a slot's access (R84, R86). -/
theorem cutAccess_tag {l : LaneIx} {a : Access} {tag : Tag} {s : State}
    (ha : s.lanes[l.val].access = some a) (htag : a.tag = some tag) :
    cutAccess l s = arbitrate l (occur ⟨10 + l.val, by omega⟩ (BitVec.ofNat 32 tag.val)
      (cutReport tag (laneCut l s))) := by
  simp only [cutAccess, ha, htag, cutDetail]
  rfl

/-- The cut of a boot read ends the load (R183). -/
theorem cutAccess_boot {l : LaneIx} {a : Access} {s : State}
    (ha : s.lanes[l.val].access = some a) (htag : a.tag = none) :
    cutAccess l s = arbitrate l (bootReadFaults (occur ⟨10 + l.val, by omega⟩ 255
      (laneCut l s))) := by
  simp only [cutAccess, ha, htag, cutDetail]
  rfl

/-- A lane fault during a boot read, the load's end spelled out (R183). -/
theorem bootReadFaults_eq {r : BootRead} {s : State} (h : s.bootRead = some r) :
    bootReadFaults s = { occur 15 (BitVec.ofNat 32 (10 + 256 * r.address)) s with
      loadOutcome := .failed, failureCode := 10, loadPhase := none, loadBuffer := []
      bootRead := none, link := .closed, cache := none } := by
  rw [bootReadFaults, h]
  rfl

/-- Settles O51. -/
theorem laneFaultCutsTheAccess : Obligations.LaneFaultCutsTheAccess := by
  intro l lk s hrun
  refine ⟨fun hnone => ?_, fun a ha => ?_⟩
  · have hcut : cutAccess l { s with lk := lk } = { s with lk := lk } := by
      have hnone' : ({ s with lk := lk } : State).lanes[l.val].access = none := hnone
      rw [cutAccess, hnone']
    rw [exec_laneFault hrun, hcut]
  · intro s'
    refine ⟨fun tag htag hact => ?_, fun tag htag horphan => ?_, fun r htag hr hbusy => ?_⟩
    · have hreport : cutReport tag s' = enterDone tag .laneFault s' := by
        have hact' : s'.slots[tag.val].state = .active := hact
        rw [cutReport, hact']
      rw [exec_laneFault hrun, cutAccess_tag (s := { s with lk := lk }) ha htag, ← hreport]
      rfl
    · have hreport : cutReport tag s' = lowerCount s.slots[tag.val].window
          { s' with slots := s.slots.set tag.val Slot.freed } := by
        have horphan' : s'.slots[tag.val].state = .orphaned := horphan
        rw [cutReport, horphan']
        rfl
      rw [exec_laneFault hrun, cutAccess_tag (s := { s with lk := lk }) ha htag, ← hreport]
      rfl
    · have hfaulted : s'.lanes[l.val].state = .faulted := by simp [s', hbusy]
      rw [exec_laneFault hrun, cutAccess_boot (s := { s with lk := lk }) ha htag,
        bootReadFaults_eq (s := occur _ _ (laneCut l { s with lk := lk })) (r := r) hr,
        arbitrate_not_idle]
      · rfl
      · exact fun h => by cases hfaulted.symm.trans h

end Sys2Proof.Machine
end

section
/-! PROOFS. The pieces of a WRITE: where each begins, that it lies in one page, and how many there are. -/

namespace Sys2Proof.Machine

/-! ## Page arithmetic -/

/-- The address at which piece `k` begins: the WRITE's own for the first, then page starts, up to the
end of the data (R40). -/
def pieceStart (page address length k : Nat) : Nat :=
  min (address + length) (max address ((address / page + k) * page))

section
variable {page address length : Nat}

theorem pieceStart_zero : pieceStart page address length 0 = address := by
  have hle : address / page * page ≤ address := Nat.div_mul_le_self address page
  simp [pieceStart, hle]

/-- A piece that is one of the pieces counted begins before the end of the data (R40). -/
theorem pieceStart_inside (hpage : 0 < page) (h1 : 1 ≤ length) {k : Nat}
    (hk : k < (address + length - 1) / page - address / page + 1) :
    max address ((address / page + k) * page) < address + length := by
  have hmono : address / page ≤ (address + length - 1) / page :=
    Nat.div_le_div_right (by omega)
  have hq : (address / page + k) * page ≤ address + length - 1 :=
    (Nat.le_div_iff_mul_le hpage).mp (by omega)
  omega

/-- Behind the last piece the data ends (R40). -/
theorem pieceStart_last (hpage : 0 < page) (h1 : 1 ≤ length) :
    pieceStart page address length ((address + length - 1) / page - address / page + 1) =
      address + length := by
  have hmono : address / page ≤ (address + length - 1) / page :=
    Nat.div_le_div_right (by omega)
  have hq : address + length - 1 < ((address + length - 1) / page + 1) * page :=
    (Nat.div_lt_iff_lt_mul hpage).mp (Nat.lt_succ_self _)
  have hk : address / page + ((address + length - 1) / page - address / page + 1) =
      (address + length - 1) / page + 1 := by omega
  rw [pieceStart, hk]
  omega

/-- The page in which a piece begins (R40). -/
theorem pieceStart_page (hpage : 0 < page) (k : Nat) :
    max address ((address / page + k) * page) / page = address / page + k := by
  rcases Nat.eq_zero_or_pos k with rfl | hk
  · have hle : address / page * page ≤ address := Nat.div_mul_le_self address page
    rw [Nat.add_zero, Nat.max_eq_left hle]
  · have hlt : address < (address / page + 1) * page :=
      (Nat.div_lt_iff_lt_mul hpage).mp (Nat.lt_succ_self _)
    have hmore : (address / page + 1) * page ≤ (address / page + k) * page :=
      Nat.mul_le_mul_right page (by omega)
    rw [Nat.max_eq_right (by omega), Nat.mul_div_cancel _ hpage]

/-- A piece ends at the end of its page or of the data, where the next one begins (R40). -/
theorem pieceStart_succ (hpage : 0 < page) {k : Nat}
    (hin : max address ((address / page + k) * page) < address + length) :
    pieceStart page address length k + min (address + length - pieceStart page address length k)
        (page - pieceStart page address length k % page) =
      pieceStart page address length (k + 1) := by
  have hstart : pieceStart page address length k = max address ((address / page + k) * page) :=
    Nat.min_eq_right hin.le
  have hdiv := pieceStart_page (address := address) hpage k
  rw [← hstart] at hdiv hin
  have hsplit := Nat.div_add_mod (pieceStart page address length k) page
  have hrest := Nat.mod_lt (pieceStart page address length k) hpage
  rw [hdiv, Nat.mul_comm] at hsplit
  have hnext : (address / page + (k + 1)) * page = (address / page + k) * page + page := by ring
  have hlow : address ≤ pieceStart page address length k := by rw [hstart]; exact le_max_left _ _
  have hmax : max address ((address / page + (k + 1)) * page) =
      (address / page + k) * page + page := by
    rw [hnext]
    exact Nat.max_eq_right (by omega)
  generalize hstart' : pieceStart page address length k = start at *
  rw [pieceStart, hmax]
  omega

/-- A range that ends with its page lies in it (R40). -/
theorem range_in_page (hpage : 0 < page) {start n : Nat} (h1 : 1 ≤ n)
    (hn : n ≤ page - start % page) : (start + n - 1) / page = start / page := by
  have hsplit := Nat.div_add_mod start page
  have hrest := Nat.mod_lt start hpage
  rw [Nat.mul_comm] at hsplit
  refine Nat.div_eq_of_lt_le (by omega) ?_
  rw [Nat.succ_mul]
  omega

end

/-! ## The pieces -/

/-- A WRITE with some of its data written. -/
def Slot.writtenTo (sl : Slot) (progress : Nat) : Slot := { sl with progress := progress }

/-- The length of a piece that begins inside the data (R40). -/
theorem pieceLength_paged {code : Nat} {sl : Slot} (hcode : code ≠ 0) {progress : Nat} :
    (sl.writtenTo progress).pieceLength code =
      min (sl.address + sl.length - (sl.address + progress))
        (pageSize code - (sl.address + progress) % pageSize code) := by
  rw [Nat.add_sub_add_left]
  exact if_neg hcode

/-- After `k` pieces all data below the start of piece `k` is written (R40). -/
theorem counted_iterate {code : Nat} {sl : Slot} (hkind : sl.kind = .write) (hcode : code ≠ 0)
    (h1 : 1 ≤ sl.length) (h0 : sl.progress = 0) (k : Nat)
    (hk : k ≤ pieceCount code sl.address sl.length) :
    (Slot.counted [] code)^[k] sl =
      sl.writtenTo (pieceStart (pageSize code) sl.address sl.length k - sl.address) := by
  have hpage : 0 < pageSize code := Nat.two_pow_pos _
  rw [pieceCount, if_neg hcode] at hk
  induction k with
  | zero =>
    rw [pieceStart_zero, Nat.sub_self, Function.iterate_zero_apply, Slot.writtenTo, ← h0]
  | succ k ih =>
    have hin := pieceStart_inside hpage h1 (Nat.lt_of_succ_le hk)
    have hlow : sl.address ≤ pieceStart (pageSize code) sl.address sl.length k := by
      rw [pieceStart, Nat.min_eq_right hin.le]
      exact le_max_left _ _
    have hnext := pieceStart_succ hpage hin
    rw [Function.iterate_succ_apply', ih (by omega), counted_write (by exact hkind),
      pieceLength_paged hcode, Nat.add_sub_cancel' hlow, ← hnext, Nat.sub_add_comm hlow]
    rfl

/-- Settles O44: by the start of each piece; without pages there is one piece. -/
theorem writePiecesCoverTheData : Obligations.WritePiecesCoverTheData := by
  intro code sl hkind hcode h1 h0
  by_cases hzero : code = 0
  · subst hzero
    have hcount : pieceCount 0 sl.address sl.length = 1 := rfl
    rw [hcount]
    refine ⟨fun k hk => ?_, ?_⟩
    · obtain rfl : k = 0 := by omega
      have hlen : sl.pieceLength 0 = sl.length - sl.progress := rfl
      refine ⟨by rw [Function.iterate_zero_apply]; omega, ?_, fun h => absurd rfl h⟩
      rw [Function.iterate_zero_apply, hlen]
      omega
    · have hlen : sl.pieceLength 0 = sl.length - sl.progress := rfl
      rw [Function.iterate_one, counted_write hkind, hlen]
      show sl.progress + (sl.length - sl.progress) = sl.length
      omega
  · have hpage : 0 < pageSize code := Nat.two_pow_pos _
    have hcount : pieceCount code sl.address sl.length =
        (sl.address + sl.length - 1) / pageSize code - sl.address / pageSize code + 1 :=
      if_neg hzero
    refine ⟨fun k hk => ?_, ?_⟩
    · have hin := pieceStart_inside hpage h1 (hcount ▸ hk)
      have hstart : pieceStart (pageSize code) sl.address sl.length k =
          max sl.address ((sl.address / pageSize code + k) * pageSize code) :=
        Nat.min_eq_right hin.le
      have hrest := Nat.mod_lt (pieceStart (pageSize code) sl.address sl.length k) hpage
      rw [counted_iterate hkind hzero h1 h0 k hk.le]
      set start := pieceStart (pageSize code) sl.address sl.length k
      have hlow : sl.address ≤ start := by rw [hstart]; exact le_max_left _ _
      have hlen : (sl.writtenTo (start - sl.address)).pieceLength code =
          min (sl.address + sl.length - start) (pageSize code - start % pageSize code) := by
        rw [pieceLength_paged hzero, Nat.add_sub_cancel' hlow]
      have haddr : (sl.writtenTo (start - sl.address)).pieceAddress = start :=
        Nat.add_sub_cancel' hlow
      intro part
      have hpart : 1 ≤ part.pieceLength code := by
        rw [hlen]
        omega
      refine ⟨?_, hpart, fun _ => ?_⟩
      · show start - sl.address < sl.length
        omega
      · rw [haddr]
        exact range_in_page hpage hpart (by rw [hlen]; exact min_le_right _ _)
    · rw [counted_iterate hkind hzero h1 h0 _ le_rfl, hcount, pieceStart_last hpage h1]
      exact Nat.add_sub_cancel_left ..

end Sys2Proof.Machine
end

section
/-! PROOFS. The fall of the window counts when several live slots leave: the drains it completes and
what E8 holds of them. -/

namespace Sys2Proof.Machine

/-! ## Several occurrences of E8 -/

/-- E8 after one occurrence for each of some drained windows, in their order (R18, R122). -/
def Source.drainsTold (src : Source) (ds : List WinIx) : Source :=
  ds.foldl (fun src i => src.occurred drainSource (maskBit i.val)) src

/-- The bits of some windows in a mask (R18). -/
def drainMask (ds : List WinIx) : BitVec 32 :=
  ds.foldl (fun m i => m ||| BitVec.ofNat 32 (2 ^ i.val)) 0

theorem drainsTold_concat (src : Source) (ds : List WinIx) (i : WinIx) :
    src.drainsTold (ds ++ [i]) = (src.drainsTold ds).occurred drainSource (maskBit i.val) := by
  simp [Source.drainsTold]

theorem drainMask_concat (ds : List WinIx) (i : WinIx) :
    drainMask (ds ++ [i]) = drainMask ds ||| maskBit i.val := by
  simp [drainMask, maskBit]

/-- The mask does not depend on the order of the drains. -/
theorem drainMask_perm {ds ds' : List WinIx} (h : ds.Perm ds') : drainMask ds = drainMask ds' := by
  have hcomm : RightCommutative fun (m : BitVec 32) (i : WinIx) =>
      m ||| BitVec.ofNat 32 (2 ^ i.val) :=
    ⟨fun m i j => by simp only [BitVec.or_assoc, BitVec.or_comm (BitVec.ofNat 32 (2 ^ i.val))]⟩
  exact h.foldl_eq 0

/-- E8 adds the bits of a drain to the mask it holds (R120). -/
theorem detailAfter_drain (held value : BitVec 32) :
    detailAfter drainSource held value = held ||| value := rfl

theorem drainsTold_disabled {src : Source} (h : src.enabled = false) (ds : List WinIx) :
    src.drainsTold ds = src := by
  induction ds using List.reverseRecOn with
  | nil => rfl
  | append_singleton ds i ih => simp [drainsTold_concat, ih, Source.occurred, h]

/-- An occurrence at an enabled source that is not IDLE (R122). -/
theorem occurred_waiting {src : Source} (he : src.enabled = true) (hs : src.state ≠ .idle)
    (i : WinIx) :
    src.occurred drainSource (maskBit i.val) =
      { src with count := min (src.count + 1) 255, detail := src.detail ||| maskBit i.val } := by
  unfold Source.occurred
  cases h : src.state with
  | idle => exact absurd h hs
  | queued => simp [he, detailAfter_drain]
  | reported => simp [he, detailAfter_drain]

/-- Drains told to an enabled E8 that is not IDLE (R122). -/
theorem drainsTold_waiting {src : Source} (he : src.enabled = true) (hs : src.state ≠ .idle)
    {ds : List WinIx} (hne : ds ≠ []) :
    src.drainsTold ds =
      { src with count := min (src.count + ds.length) 255, detail := src.detail ||| drainMask ds } := by
  induction ds using List.reverseRecOn with
  | nil => exact absurd rfl hne
  | append_singleton ds i ih =>
    rw [drainsTold_concat, drainMask_concat, List.length_append]
    by_cases hds : ds = []
    · subst hds
      simpa [Source.drainsTold, drainMask] using occurred_waiting he hs i
    · rw [ih hds, occurred_waiting (src := { src with
        count := min (src.count + ds.length) 255, detail := src.detail ||| drainMask ds }) he hs]
      simp only [BitVec.or_assoc, List.length_singleton]
      congr 1
      omega

/-- Drains told to an enabled E8 at rest: it is QUEUED with their number and their bits (R122). -/
theorem drainsTold_idle {src : Source} (he : src.enabled = true) (hs : src.state = .idle)
    {ds : List WinIx} (hne : ds ≠ []) :
    src.drainsTold ds =
      { src with state := .queued, count := min ds.length 255, detail := drainMask ds } := by
  induction ds using List.reverseRecOn with
  | nil => exact absurd rfl hne
  | append_singleton ds i ih =>
    rw [drainsTold_concat, drainMask_concat, List.length_append]
    by_cases hds : ds = []
    · subst hds
      simp [Source.drainsTold, drainMask, Source.occurred, he, hs, detailAfter_drain]
    · rw [ih hds, occurred_waiting (src := { src with
        state := .queued, count := min ds.length 255, detail := drainMask ds }) he (by simp)]
      simp only [List.length_singleton]
      congr 1
      omega

/-! ## The counts once some live slots have left -/

/-- What `t` holds in its windows, sources and notice queue once `left i` live slots of each window of
`s` have left, the drains of `ds` told in their order. -/
structure CountsFell (left : WinIx → Nat) (ds : List WinIx) (s t : State) : Prop where
  windows : ∀ i : WinIx, t.windows[i.val] =
    { s.windows[i.val] with
      state := if i ∈ ds then .closed else s.windows[i.val].state
      outstanding := s.windows[i.val].outstanding - left i }
  drained : ds.Perm (drainedBy left s)
  others : ∀ e : SrcIx, e ≠ 8 → t.sources[e.val] = s.sources[e.val]
  source : t.sources[8] = s.sources[8].drainsTold ds
  notices : t.notices =
    if ds ≠ [] ∧ s.sources[8].joins = true then s.notices ++ [8] else s.notices

theorem mem_drainedBy {left : WinIx → Nat} {s : State} {i : WinIx} :
    i ∈ drainedBy left s ↔ s.windows[i.val].state = .draining ∧
      0 < s.windows[i.val].outstanding ∧ s.windows[i.val].outstanding ≤ left i := by
  simp [drainedBy, and_assoc]

theorem drainedBy_nodup (left : WinIx → Nat) (s : State) : (drainedBy left s).Nodup :=
  (List.nodup_finRange 16).filter _

/-- With no slot gone nothing has fallen. -/
theorem CountsFell.none (s : State) : CountsFell (fun _ => 0) [] s s where
  windows i := by simp
  drained := by
    have hnil : drainedBy (fun _ => 0) s = [] := List.eq_nil_iff_forall_not_mem.mpr fun i hi => by
      obtain ⟨-, hpos, hle⟩ := mem_drainedBy.mp hi
      omega
    rw [hnil]
  others _ _ := rfl
  source := rfl
  notices := by simp

/-- The drains told are those of the statement, in whatever order. -/
theorem CountsFell.countsFall {left : WinIx → Nat} {ds : List WinIx} {s t : State}
    (h : CountsFell left ds s t) : CountsFall left s t := by
  have hmem (i : WinIx) : i ∈ ds ↔ i ∈ drainedBy left s := h.drained.mem_iff
  have hnil : ds = [] ↔ drainedBy left s = [] :=
    ⟨fun hds => by simpa [hds] using h.drained, fun hds => by simpa [hds] using h.drained⟩
  have hmask : drainMask ds = (drainedBy left s).foldl
      (fun m i => m ||| BitVec.ofNat 32 (2 ^ i.val)) 0 := drainMask_perm h.drained
  have hlen := h.drained.length_eq
  have hshort : ds.length ≤ 255 := by
    have := List.length_filter_le (fun i : WinIx => s.windows[i.val].state == .draining &&
      0 < s.windows[i.val].outstanding && s.windows[i.val].outstanding ≤ left i) (List.finRange 16)
    rw [List.length_finRange] at this
    rw [hlen, drainedBy]
    omega
  have hjoins : s.sources[8].joins = true ↔
      s.sources[8].enabled = true ∧ s.sources[8].state = .idle := by simp [Source.joins]
  refine ⟨fun i => ?_, h.others, fun hnone => ?_, fun hne he hs => ?_, fun hne he hs => ?_⟩
  · rw [h.windows i]
    simp only [hmem i]
  · rw [h.source, h.notices]
    rcases hnone with hnone | hoff
    · rw [hnil.mpr hnone]
      exact ⟨rfl, if_neg (by simp)⟩
    · exact ⟨drainsTold_disabled hoff ds, if_neg fun hj => by simp [hjoins, hoff] at hj⟩
  · have hds : ds ≠ [] := fun hds => hne (hnil.mp hds)
    rw [h.source, h.notices, drainsTold_idle he hs hds, Nat.min_eq_left hshort, hmask, ← hlen]
    exact ⟨rfl, if_pos ⟨hds, hjoins.mpr ⟨he, hs⟩⟩⟩
  · have hds : ds ≠ [] := fun hds => hne (hnil.mp hds)
    rw [h.source, h.notices, drainsTold_waiting he hs hds, hmask, ← hlen]
    exact ⟨rfl, if_neg fun hj => hs (hjoins.mp hj.2).2⟩

/-- The windows, sources and notice queue of one state are another's. -/
def SameCounts (s t : State) : Prop :=
  t.windows = s.windows ∧ t.sources = s.sources ∧ t.notices = s.notices

/-- What holds of the counts does not depend on the rest of the state. -/
theorem CountsFell.same {left : WinIx → Nat} {ds : List WinIx} {s t u : State}
    (h : CountsFell left ds s t) (hu : SameCounts t u) : CountsFell left ds s u := by
  obtain ⟨hw, hsrc, hn⟩ := hu
  exact ⟨fun i => by simp only [hw]; exact h.windows i, h.drained,
    fun e he => by simp only [hsrc]; exact h.others e he, by simp only [hsrc]; exact h.source,
    by rw [hn]; exact h.notices⟩

/-- One more slot of a window gone. -/
def oneMore (left : WinIx → Nat) (w : WinIx) : WinIx → Nat :=
  fun i => left i + if i = w then 1 else 0

/-- E8 joins the notice queue at the first of the drains told. -/
theorem drainsTold_joins (src : Source) (ds : List WinIx) :
    (src.drainsTold ds).joins = (decide (ds = []) && src.joins) := by
  by_cases hds : ds = []
  · simp [hds, Source.drainsTold]
  · cases he : src.enabled with
    | false => rw [drainsTold_disabled he]; simp [hds, Source.joins, he]
    | true =>
      by_cases hs : src.state = .idle
      · rw [drainsTold_idle he hs hds]; simp [hds, Source.joins]
      · rw [drainsTold_waiting he hs hds]; simp [hds, Source.joins, hs]

theorem oneMore_same (left : WinIx → Nat) (w : WinIx) : oneMore left w w = left w + 1 := by
  simp [oneMore]

theorem oneMore_other (left : WinIx → Nat) {w i : WinIx} (h : i ≠ w) :
    oneMore left w i = left i := by
  simp [oneMore, h]

/-- The window is drained by the slot that leaves (R18). -/
theorem CountsFell.lower_drains {left : WinIx → Nat} {ds : List WinIx} {s t : State} {w : WinIx}
    (h : CountsFell left ds s t) (hstate : t.windows[w.val].state = .draining)
    (hout : t.windows[w.val].outstanding = 1) :
    CountsFell (oneMore left w) (ds ++ [w]) s (lowerCount w t) := by
  have hw := h.windows w
  have hlow := lowerCount_drains hstate hout
  rw [hw] at hstate hout
  have hnew : w ∉ ds := fun hin => by simp [hin] at hstate
  simp only [hnew, if_false] at hstate
  dsimp only at hout
  rw [hlow]
  constructor
  case windows =>
    intro i
    show (t.windows.set w.val _)[i.val] = _
    rw [getElem_set_fin]
    by_cases hi : i = w
    · subst hi
      have hzero : s.windows[i.val].outstanding - (left i + 1) = 0 := by omega
      rw [if_pos rfl, hw, oneMore_same]
      simp [hzero]
    · rw [if_neg hi, h.windows i, oneMore_other left hi]
      simp [hi]
  case drained =>
    have hnodup : ds.Nodup := h.drained.nodup_iff.mpr (drainedBy_nodup left s)
    refine (List.perm_ext_iff_of_nodup ?_ (drainedBy_nodup _ s)).mpr fun i => ?_
    · exact hnodup.append (List.nodup_singleton w) (by simpa using hnew)
    · rw [List.mem_append, List.mem_singleton, h.drained.mem_iff, mem_drainedBy, mem_drainedBy]
      by_cases hi : i = w
      · subst hi
        rw [oneMore_same]
        exact ⟨fun _ => ⟨hstate, by omega, by omega⟩, fun _ => .inr rfl⟩
      · rw [oneMore_other left hi]
        simp [hi]
  case others =>
    intro e he
    rw [← h.others e he]
    exact occur_other (e := 8) he
  case source =>
    rw [drainsTold_concat, ← h.source]
    simp [maskBit, drainSource]
  case notices =>
    have hjoins : t.sources[8].joins = (decide (ds = []) && s.sources[8].joins) := by
      rw [h.source, drainsTold_joins]
    have hkeep := h.notices
    show (if t.sources[8].joins = true then t.notices ++ [8] else t.notices) = _
    rw [hjoins, hkeep]
    by_cases hds : ds = [] <;> by_cases hj : s.sources[8].joins = true <;> simp [hds, hj]

/-- The slot that leaves drains no window (R16). -/
theorem CountsFell.lower_stays {left : WinIx → Nat} {ds : List WinIx} {s t : State} {w : WinIx}
    (h : CountsFell left ds s t)
    (hstays : t.windows[w.val].state ≠ .draining ∨ t.windows[w.val].outstanding ≠ 1) :
    CountsFell (oneMore left w) ds s (lowerCount w t) := by
  have hw := h.windows w
  rw [lowerCount_stays hstays]
  constructor
  case windows =>
    intro i
    show (t.windows.set w.val _)[i.val] = _
    rw [getElem_set_fin]
    by_cases hi : i = w
    · subst hi
      rw [if_pos rfl, hw, oneMore_same, Nat.sub_sub]
    · rw [if_neg hi, h.windows i, oneMore_other left hi]
  case drained =>
    have hnodup : ds.Nodup := h.drained.nodup_iff.mpr (drainedBy_nodup left s)
    refine (List.perm_ext_iff_of_nodup hnodup (drainedBy_nodup _ s)).mpr fun i => ?_
    by_cases hi : i = w
    · subst hi
      rw [hw] at hstays
      by_cases hin : i ∈ ds
      · have hin' := mem_drainedBy.mp (h.drained.mem_iff.mp hin)
        refine iff_of_true hin (mem_drainedBy.mpr ?_)
        rw [oneMore_same]
        exact ⟨hin'.1, hin'.2.1, by omega⟩
      · refine iff_of_false hin fun hdr => ?_
        obtain ⟨hstate, hpos, hle⟩ := mem_drainedBy.mp hdr
        rw [oneMore_same] at hle
        have hnot : ¬ s.windows[i.val].outstanding ≤ left i := fun hle' =>
          hin (h.drained.mem_iff.mpr (mem_drainedBy.mpr ⟨hstate, hpos, hle'⟩))
        simp only [if_neg hin] at hstays
        exact hstays.elim (fun hs => hs hstate) fun ho => ho (by omega)
    · rw [h.drained.mem_iff, mem_drainedBy, mem_drainedBy, oneMore_other left hi]
  case others => exact h.others
  case source => exact h.source
  case notices => exact h.notices

/-- One more slot's window has its count lowered (R16, R18). -/
theorem CountsFell.lower {left : WinIx → Nat} {ds : List WinIx} {s t : State} (w : WinIx)
    (h : CountsFell left ds s t) :
    ∃ ds', CountsFell (oneMore left w) ds' s (lowerCount w t) := by
  by_cases hd : t.windows[w.val].state = .draining ∧ t.windows[w.val].outstanding = 1
  · exact ⟨ds ++ [w], h.lower_drains hd.1 hd.2⟩
  · exact ⟨ds, h.lower_stays (not_and_or.mp hd)⟩

/-- A run over tags that lowers the counts of the windows of some of them, and leaves the windows and
E8 alone for the others. -/
theorem countsFell_foldl {f : State → Tag → State} {frees : Tag → Bool} {window : Tag → WinIx}
    {s : State} (tags : List Tag)
    (hstep : ∀ (before : List Tag) (tag : Tag) (after : List Tag), tags = before ++ tag :: after →
      SameCounts (if frees tag then lowerCount (window tag) (before.foldl f s) else before.foldl f s)
        (f (before.foldl f s) tag)) :
    ∃ ds, CountsFell (fun i => tags.countP fun tag => frees tag && window tag == i) ds s
      (tags.foldl f s) := by
  induction tags using List.reverseRecOn with
  | nil => exact ⟨[], CountsFell.none s⟩
  | append_singleton tags tag ih =>
    obtain ⟨ds, hds⟩ := ih fun before x after h =>
      hstep before x (after ++ [tag]) (by rw [h]; simp)
    have hlast := hstep tags tag [] rfl
    rw [List.foldl_append, List.foldl_cons, List.foldl_nil]
    cases hfree : frees tag with
    | false =>
      rw [hfree] at hlast
      refine ⟨ds, ?_⟩
      simp only [List.countP_append, List.countP_singleton, hfree, Bool.false_and,
        Bool.false_eq_true, if_false, Nat.add_zero]
      exact hds.same hlast
    | true =>
      rw [hfree, if_pos rfl] at hlast
      obtain ⟨ds', hds'⟩ := hds.lower (window tag)
      refine ⟨ds', ?_⟩
      have hcount : (fun i => (tags ++ [tag]).countP fun tag => frees tag && window tag == i) =
          oneMore (fun i => tags.countP fun tag => frees tag && window tag == i) (window tag) := by
        funext i
        simp only [oneMore, List.countP_append, List.countP_singleton, hfree, Bool.true_and,
          beq_iff_eq]
        rw [if_congr (eq_comm (a := window tag)) rfl rfl]
      rw [hcount]
      exact hds'.same hlast

end Sys2Proof.Machine
end

section
/-! PROOFS. The link reset of every block. -/

namespace Sys2Proof.Machine

/-! ## LANE_RESET and the link reset: the slots that wait -/

/-- A slot that waits: QUEUED or PAUSED. -/
def Slot.waits (sl : Slot) : Bool := sl.state == .queued || sl.state == .paused

theorem waits_iff {sl : Slot} : sl.waits = true ↔ sl.state = .queued ∨ sl.state = .paused := by
  simp [Slot.waits]

theorem sameCounts_lowerCount {s u : State} (w : WinIx) (h : SameCounts s u) :
    SameCounts (lowerCount w s) (lowerCount w u) := by
  obtain ⟨hw, hsrc, hn⟩ := h
  rw [lowerCount_eq, lowerCount_eq]
  refine ⟨?_, ?_, ?_⟩ <;> simp only [hw, hsrc, hn]

/-- The reset of one slot lowers the count of its window when the slot waits (R70). -/
theorem sameCounts_linkResetSlot (s : State) (tag : Tag) :
    SameCounts (if s.slots[tag.val].waits then lowerCount s.slots[tag.val].window s else s)
      (linkResetSlot s tag) := by
  cases h : s.slots[tag.val].state
  case queued | paused =>
    simp only [linkResetSlot, Slot.waits, h]
    exact sameCounts_lowerCount _ ⟨rfl, rfl, rfl⟩
  all_goals
    simp only [linkResetSlot, Slot.waits, h]
    exact ⟨rfl, rfl, rfl⟩

/-- The counts that the reset of all slots leaves (R70, R16, R18). -/
theorem countsFall_linkResetSlots (s : State) :
    CountsFall (fun i => s.slots.toList.countP fun sl => sl.waits && sl.window == i) s
      (linkResetSlots s) := by
  obtain ⟨ds, hds⟩ := countsFell_foldl (f := linkResetSlot) (s := s)
    (frees := fun tag => s.slots[tag.val].waits) (window := fun tag => s.slots[tag.val].window)
    allTags fun before tag after htags => by
      have hnodup : allTags.Nodup := List.nodup_finRange 32
      rw [htags] at hnodup
      obtain ⟨hbefore, -, hdisjoint⟩ := List.nodup_append'.mp hnodup
      have hslot := foldl_linkResetSlot_slot before hbefore s tag
      rw [if_neg fun hin => hdisjoint hin (List.mem_cons_self ..)] at hslot
      have hsame := sameCounts_linkResetSlot (before.foldl linkResetSlot s) tag
      rwa [hslot] at hsame
  have hcount : (fun i => s.slots.toList.countP fun sl => sl.waits && sl.window == i) =
      fun i => allTags.countP fun tag => s.slots[tag.val].waits && s.slots[tag.val].window == i := by
    funext i
    rw [toList_finRange, List.countP_map]
    rfl
  rw [hcount]
  exact hds.countsFall

/-- The live slots of a window are those that wait and those with an access. -/
theorem liveThrough_split (i : WinIx) (s : State) :
    liveThrough i s =
      (s.slots.toList.countP fun sl => sl.waits && sl.window == i) +
        s.slots.toList.countP fun sl =>
          (sl.state == .active || sl.state == .orphaned) && sl.window == i := by
  unfold liveThrough
  induction s.slots.toList with
  | nil => rfl
  | cons sl slots ih =>
    simp only [List.countP_cons, ih]
    cases hst : sl.state <;> cases hw : sl.window == i <;>
      simp [Slot.live, Slot.waits, hst] <;> omega

/-- A link reset leaves alone what it does not free, empty or set (R157). -/
theorem linkReset_own_frame (s : State) :
    linkReset s = { s with
      slots := (linkReset s).slots, windows := (linkReset s).windows
      sources := (linkReset s).sources, notices := (linkReset s).notices
      queues := Vector.replicate 8 [], delivery := [], discards := [], link := .closed
      replies := [], cache := none, snapshot := none, credits := 0, holdTime := 50
      lastServed := .notice } := by
  have h := linkReset_frame s
  generalize linkResetSlots s = u at h
  rw [h]
  rfl

/-- Settles O10: the slots one by one, the fall of the counts, and the frame. -/
theorem linkResetOfEveryBlock : Obligations.LinkResetOfEveryBlock := by
  intro s t
  have hfall : CountsFall (fun i => s.slots.toList.countP fun sl => sl.waits && sl.window == i) s t := by
    have h := countsFall_linkResetSlots s
    unfold t linkReset
    generalize linkResetSlots s = u at h ⊢
    exact h
  refine ⟨linkReset_own_frame s, fun tag => ?_, hfall, fun hcount i hdrain => ?_⟩
  · exact (linkReset_slot s tag).trans rfl
  · obtain ⟨hout, -, hpos⟩ := hcount i
    have hwindow := hfall.1 i
    rw [liveThrough_split] at hout
    have hpos' := hpos hdrain
    refine ⟨fun hnone => ?_, fun ⟨tag, htag, hstate⟩ => ?_⟩
    · have hzero : (s.slots.toList.countP fun sl =>
          (sl.state == .active || sl.state == .orphaned) && sl.window == i) = 0 := by
        rw [toList_finRange, List.countP_map, List.countP_eq_zero]
        intro tag _ htag
        simp only [Function.comp_apply, Bool.and_eq_true, Bool.or_eq_true, beq_iff_eq] at htag
        exact htag.1.elim (hnone tag htag.2).1 (hnone tag htag.2).2
      rw [hwindow]
      exact if_pos (mem_drainedBy.mpr ⟨hdrain, hpos', by omega⟩)
    · have hmore : 0 < s.slots.toList.countP fun sl =>
          (sl.state == .active || sl.state == .orphaned) && sl.window == i :=
        List.countP_pos_iff.mpr ⟨s.slots[tag.val], by simp, by simpa [htag] using hstate⟩
      rw [hwindow]
      exact (if_neg fun hdr => by
        have hle := (mem_drainedBy.mp hdr).2.2
        omega).trans hdrain

end Sys2Proof.Machine
end

section
/-! PROOFS. LANE_RESET: the flush of the lane's two queues. -/

namespace Sys2Proof.Machine

/-! ## The flush of one slot -/

/-- A slot of the lane's queues once it has been flushed (R67). -/
def Slot.afterFlush (sl : Slot) (holdTime : Nat) : Slot :=
  match sl.state with
  | .queued | .paused => sl.finished .flushed holdTime
  | .active => sl.flushAsked
  | .done | .free | .orphaned => sl

theorem flushSlot_waiting {s : State} {tag : Tag} (h : s.slots[tag.val].waits = true) :
    flushSlot s tag = enterDone tag .flushed s := by
  rcases waits_iff.mp h with h | h <;> simp only [flushSlot, h]

/-- The flush of a slot that does not wait changes that slot alone (R67). -/
theorem flushSlot_other {s : State} {tag : Tag} (h : s.slots[tag.val].waits = false) :
    flushSlot s tag = setSlot tag (s.slots[tag.val].afterFlush s.holdTime) s := by
  cases hst : s.slots[tag.val].state
  case queued | paused => simp [Slot.waits, hst] at h
  case active => simp only [flushSlot, Slot.afterFlush, hst]
  all_goals
    simp only [flushSlot, Slot.afterFlush, hst]
    exact (setSlot_self tag s).symm

theorem flushSlot_slots (s : State) (tag : Tag) :
    (flushSlot s tag).slots = s.slots.set tag.val (s.slots[tag.val].afterFlush s.holdTime) := by
  cases h : s.slots[tag.val].waits with
  | false => rw [flushSlot_other h]; rfl
  | true =>
    rw [flushSlot_waiting h, enterDone_eq]
    rcases waits_iff.mp h with hst | hst <;> simp only [Slot.afterFlush, hst]

/-- A waiting slot leaves the queue of its target, no other slot does (R64, R67). -/
theorem flushSlot_queue (s : State) (tag : Tag) (n : Target) :
    (flushSlot s tag).queues[n.val] = s.queues[n.val].filter fun x =>
      !(decide (x = tag) && s.slots[tag.val].waits && decide (s.slots[tag.val].target = n)) := by
  cases h : s.slots[tag.val].waits with
  | false =>
    rw [flushSlot_other h]
    simp
  | true =>
    rw [flushSlot_waiting h, enterDone_eq]
    show (s.queues.set _ _)[n.val] = _
    rw [getElem_set_fin]
    by_cases hn : n = s.slots[tag.val].target
    · subst hn
      rw [if_pos rfl]
      exact List.filter_congr fun x _ => by simp [bne, BEq.beq]
    · rw [if_neg hn]
      simp [Ne.symm hn]

theorem flushSlot_delivery (s : State) (tag : Tag) :
    (flushSlot s tag).delivery = s.delivery ++ if s.slots[tag.val].waits then [tag] else [] := by
  cases h : s.slots[tag.val].waits with
  | false => rw [flushSlot_other h]; simp
  | true => rw [flushSlot_waiting h, enterDone_eq]; rfl

/-- What a flush leaves alone (R67). -/
def FlushKept (s u : State) : Prop :=
  u = { s with
    slots := u.slots, queues := u.queues, windows := u.windows, sources := u.sources
    notices := u.notices, delivery := u.delivery }

theorem flushKept_flushSlot (s : State) (tag : Tag) : FlushKept s (flushSlot s tag) := by
  cases h : s.slots[tag.val].waits with
  | false => rw [flushSlot_other h]; rfl
  | true => rw [flushSlot_waiting h, enterDone_eq, lowerCount_eq]; rfl

theorem FlushKept.trans {s t u : State} (h : FlushKept s t) (h' : FlushKept t u) :
    FlushKept s u := by
  unfold FlushKept at h h' ⊢
  rw [h'] at *
  rw [h]

theorem sameCounts_flushSlot (s : State) (tag : Tag) :
    SameCounts (if s.slots[tag.val].waits then lowerCount s.slots[tag.val].window s else s)
      (flushSlot s tag) := by
  cases h : s.slots[tag.val].waits with
  | false => rw [flushSlot_other h]; exact ⟨rfl, rfl, rfl⟩
  | true => rw [flushSlot_waiting h, enterDone_eq]; exact ⟨rfl, rfl, rfl⟩

/-! ## The flush of several slots -/

/-- What the flush of some tags leaves. -/
structure Flushed (tags : List Tag) (s u : State) : Prop where
  kept : FlushKept s u
  slots : ∀ x : Tag, u.slots[x.val] =
    if x ∈ tags then s.slots[x.val].afterFlush s.holdTime else s.slots[x.val]
  queues : ∀ n : Target, u.queues[n.val] = s.queues[n.val].filter fun x =>
    !(decide (x ∈ tags) && s.slots[x.val].waits && decide (s.slots[x.val].target = n))
  delivery : u.delivery = s.delivery ++ tags.filter fun x => s.slots[x.val].waits

theorem flushed_foldl {s : State} (tags : List Tag) (hnodup : tags.Nodup) :
    Flushed tags s (tags.foldl flushSlot s) := by
  induction tags using List.reverseRecOn with
  | nil => exact ⟨rfl, fun x => by simp, fun n => by simp, by simp⟩
  | append_singleton tags tag ih =>
    rw [List.nodup_append'] at hnodup
    obtain ⟨htags, -, hdisjoint⟩ := hnodup
    have hnew : tag ∉ tags := fun hin => hdisjoint hin (List.mem_singleton_self tag)
    have h := ih htags
    rw [List.foldl_append, List.foldl_cons, List.foldl_nil]
    have hslot := h.slots tag
    rw [if_neg hnew] at hslot
    have hhold : (tags.foldl flushSlot s).holdTime = s.holdTime := by
      have hk : tags.foldl flushSlot s = _ := h.kept
      rw [hk]
    refine ⟨h.kept.trans (flushKept_flushSlot _ tag), fun x => ?_, fun n => ?_, ?_⟩
    · simp only [flushSlot_slots, getElem_set_fin, hslot, hhold, h.slots x, List.mem_append,
        List.mem_singleton]
      by_cases hx : x = tag
      · subst hx; simp
      · simp [hx]
    · rw [flushSlot_queue, hslot, h.queues n, List.filter_filter]
      refine List.filter_congr fun x _ => ?_
      by_cases hx : x = tag
      · subst hx; simp [hnew]
      · simp [hx]
    · rw [flushSlot_delivery, hslot, h.delivery, List.filter_append, List.append_assoc]
      congr 1
      cases hw : s.slots[tag.val].waits <;> simp [hw]

/-- The counts that the flush of some tags leaves (R16, R18). -/
theorem countsFall_flush {s : State} (tags : List Tag) (hnodup : tags.Nodup) :
    CountsFall (fun i => tags.countP fun tag =>
      s.slots[tag.val].waits && s.slots[tag.val].window == i) s (tags.foldl flushSlot s) := by
  obtain ⟨ds, hds⟩ := countsFell_foldl (f := flushSlot) (s := s)
    (frees := fun tag => s.slots[tag.val].waits) (window := fun tag => s.slots[tag.val].window)
    tags fun before tag after htags => by
      rw [htags] at hnodup
      obtain ⟨hbefore, -, hdisjoint⟩ := List.nodup_append'.mp hnodup
      have hslot := (flushed_foldl (s := s) before hbefore).slots tag
      rw [if_neg fun hin => hdisjoint hin (List.mem_cons_self ..)] at hslot
      have hsame := sameCounts_flushSlot (before.foldl flushSlot s) tag
      rwa [hslot] at hsame
  exact hds.countsFall

/-! ## The two queues of a lane -/

/-- The tags in the two queues of a lane, select 0 first (R90). -/
def laneTags (l : LaneIx) (s : State) : List Tag :=
  s.queues[(targetAt l 0).val] ++ s.queues[(targetAt l 1).val]

theorem laneOf_targetAt (l : LaneIx) (sel : Fin 2) : laneOf (targetAt l sel) = l := by
  ext
  simp only [laneOf, targetAt]
  omega

theorem targetAt_of_laneOf {n : Target} {l : LaneIx} (h : laneOf n = l) :
    n = targetAt l 0 ∨ n = targetAt l 1 := by
  have hval : n.val / 2 = l.val := congrArg Fin.val h
  simp only [Fin.ext_iff, targetAt]
  have : n.val = 2 * l.val ∨ n.val = 2 * l.val + 1 := by omega
  simpa using this

section
variable {l : LaneIx} {s : State}

theorem mem_laneTags (hq : QueueLaw s) {tag : Tag} :
    tag ∈ laneTags l s ↔ s.slots[tag.val].inQueue ∧ laneOf s.slots[tag.val].target = l := by
  rw [laneTags, List.mem_append, mem_queue hq, mem_queue hq, ← and_or_left]
  refine and_congr_right fun _ => ⟨?_, targetAt_of_laneOf⟩
  rintro (h | h) <;> rw [h, laneOf_targetAt]

theorem laneTags_nodup (hq : QueueLaw s) : (laneTags l s).Nodup := by
  refine (hq.2 _).append (hq.2 _) fun tag h0 h1 => ?_
  have hsame := ((mem_queue hq).mp h0).2.symm.trans ((mem_queue hq).mp h1).2
  simp only [Fin.ext_iff, targetAt] at hsame
  simp at hsame

/-- The flush of the lane is the flush of the tags in its queues (R90). -/
theorem flushLane_eq (hq : QueueLaw s) : flushLane l s = (laneTags l s).foldl flushSlot s := by
  have hfirst := (flushed_foldl (s := s) s.queues[(targetAt l 0).val] (hq.2 _)).queues (targetAt l 1)
  have hsecond : (flushTarget (targetAt l 0) s).queues[(targetAt l 1).val] =
      s.queues[(targetAt l 1).val] := by
    refine hfirst.trans (List.filter_eq_self.mpr fun tag h1 => ?_)
    have hout : tag ∉ s.queues[(targetAt l 0).val] := fun h0 => by
      have hnodup : (laneTags l s).Nodup := laneTags_nodup hq
      exact (List.nodup_append'.mp hnodup).2.2 h0 h1
    simp [hout]
  rw [flushLane, flushTarget, hsecond, laneTags, List.foldl_append]
  rfl

end

/-- The lane once it has been reset, its slots flushed (R90). -/
def laneReset (l : LaneIx) (s : State) : State :=
  setLane l { (flushLane l s).lanes[l.val] with state := resetState s.lanes[l.val].state }
    (flushLane l s)

/-- The lane state after a reset: IDLE where no access runs (R90). -/
theorem resetState_eq (state : LaneState) :
    resetState state =
      match state with
      | .idle | .faulted => .idle
      | .busy | .resetting => .resetting := by
  cases state <;> rfl

theorem code_resetState (state : LaneState) :
    (resetState state).code =
      match (match state with
        | .idle | .faulted => LaneState.idle
        | .busy | .resetting => .resetting) with
      | .idle => 0
      | _ => 3 := by
  cases state <;> rfl

theorem reqLaneReset_lane (l : LaneIx) (s : State) :
    reqLaneReset [byteOf l.val] s =
      (arbitrate l (laneReset l s),
        Reply.okWith [(resetState s.lanes[l.val].state).code, byteOf (flushCount l s)]) := by
  rw [reqLaneReset, byteAt_cons_zero, indexOf_byteOf (by decide)]
  rfl

/-- The slots that a lane reset flushes through a window are those of its tags (R67). -/
theorem countP_laneTags {l : LaneIx} {s : State} (hq : QueueLaw s) (i : WinIx) :
    ((laneTags l s).countP fun tag => s.slots[tag.val].waits && s.slots[tag.val].window == i) =
      s.slots.toList.countP fun sl => sl.waits && laneOf sl.target == l && sl.window == i := by
  rw [toList_finRange, List.countP_map, List.countP_eq_length_filter, List.countP_eq_length_filter]
  refine ((List.perm_ext_iff_of_nodup ((laneTags_nodup hq).filter _)
    ((List.nodup_finRange 32).filter _)).mpr fun tag => ?_).length_eq
  simp only [List.mem_filter, List.mem_finRange, true_and, mem_laneTags hq, Function.comp_apply,
    Bool.and_eq_true, beq_iff_eq, waits_iff, Slot.inQueue]
  tauto

/-- What a flush of the lane leaves of a slot (R67). -/
theorem flushLane_slot {l : LaneIx} {s : State} (hq : QueueLaw s) (tag : Tag) :
    (flushLane l s).slots[tag.val] =
      if laneOf s.slots[tag.val].target = l then s.slots[tag.val].afterFlush s.holdTime
      else s.slots[tag.val] := by
  rw [flushLane_eq hq, (flushed_foldl (laneTags l s) (laneTags_nodup hq)).slots tag]
  by_cases hl : laneOf s.slots[tag.val].target = l
  · rw [if_pos hl]
    by_cases hin : s.slots[tag.val].inQueue
    · exact if_pos ((mem_laneTags hq).mpr ⟨hin, hl⟩)
    · rw [if_neg fun hmem => hin ((mem_laneTags hq).mp hmem).1]
      cases hst : s.slots[tag.val].state
      case queued | active | paused => simp [Slot.inQueue, hst] at hin
      all_goals simp only [Slot.afterFlush, hst]
  · rw [if_neg hl, if_neg fun hmem => hl ((mem_laneTags hq).mp hmem).2]

/-- What a flush of the lane leaves of a queue: on the lane, the ACTIVE head (R67). -/
theorem flushLane_queue {l : LaneIx} {s : State} (hq : QueueLaw s) (n : Target) :
    (flushLane l s).queues[n.val] =
      if laneOf n = l then s.queues[n.val].filter fun tag => s.slots[tag.val].state == .active
      else s.queues[n.val] := by
  rw [flushLane_eq hq, (flushed_foldl (laneTags l s) (laneTags_nodup hq)).queues n]
  by_cases hl : laneOf n = l
  · rw [if_pos hl]
    refine List.filter_congr fun tag htag => ?_
    obtain ⟨hin, htarget⟩ := (mem_queue hq).mp htag
    have hmem : tag ∈ laneTags l s := (mem_laneTags hq).mpr ⟨hin, by rw [htarget, hl]⟩
    rcases hin with hst | hst | hst <;> simp [hmem, htarget, Slot.waits, hst]
  · rw [if_neg hl]
    refine List.filter_eq_self.mpr fun tag htag => ?_
    have hout : tag ∉ laneTags l s := fun hmem => by
      have hlane := ((mem_laneTags hq).mp hmem).2
      rw [((mem_queue hq).mp htag).2] at hlane
      exact hl hlane
    simp [hout]

/-- A slot flushed, its record spelled out (R64, R67). -/
theorem afterFlush_eq (sl : Slot) (holdTime : Nat) :
    sl.afterFlush holdTime =
      match sl.state with
      | .queued | .paused =>
        { sl with
          state := .done, status := some .flushed, abortRequested := false
          flushRequested := false, retryTimer := none
          holdTimer := if holdTime = 0 then none else some holdTime }
      | .active => if sl.abortRequested then sl else { sl with flushRequested := true }
      | .done | .free | .orphaned => sl := by
  cases h : sl.state <;> simp only [Slot.afterFlush, Slot.finished, Slot.flushAsked, h]

/-- Settles O36. -/
theorem laneResetFlushesTheLane : Obligations.LaneResetFlushesTheLane := by
  refine ⟨fun seq l lk s hlink hq hready => ?_, fun seq b lk s hlink h4 hready => ?_⟩
  · intro waits flushed state
    have hq' : QueueLaw { s with lk := lk } := hq
    have hflushed := flushed_foldl (s := { s with lk := lk }) (laneTags l { s with lk := lk }) (laneTags_nodup hq')
    rw [← flushLane_eq hq'] at hflushed
    have hkept : flushLane l { s with lk := lk } = _ := hflushed.kept
    have hcount : flushCount l { s with lk := lk } = flushed.length :=
      List.countP_eq_length_filter ..
    have hfall := countsFall_flush (s := { s with lk := lk }) (laneTags l { s with lk := lk })
      (laneTags_nodup hq')
    rw [← flushLane_eq hq'] at hfall
    refine ⟨laneReset l { s with lk := lk }, ?_, ?_, fun tag => ?_, fun n => flushLane_queue hq' n, ?_⟩
    · refine exec_served (r := .laneReset) hready (by simp) (by rw [hlink]; rfl) rfl
        ((reqLaneReset_lane l { s with lk := lk }).trans ?_)
      rw [hcount]
      exact congrArg (fun code => (_, Reply.okWith [code, byteOf flushed.length]))
        (code_resetState s.lanes[l.val].state)
    · have hdelivery : (flushLane l { s with lk := lk }).delivery = s.delivery ++ flushed :=
        hflushed.delivery
      have hstate : resetState s.lanes[l.val].state = state := resetState_eq _
      unfold laneReset
      rw [hstate]
      generalize flushLane l { s with lk := lk } = v at hkept hdelivery
      rw [hkept, hdelivery]
      rfl
    · exact (flushLane_slot hq' tag).trans (congrArg
        (fun sl => if laneOf s.slots[tag.val].target = l then sl else s.slots[tag.val])
        (afterFlush_eq s.slots[tag.val] s.holdTime))
    · simp only [countP_laneTags hq'] at hfall
      exact hfall
  · refine exec_served (r := .laneReset) hready (by simp) (by rw [hlink]; rfl) rfl ?_
    show reqLaneReset [b] { s with lk := lk } = _
    rw [reqLaneReset, byteAt_cons_zero, indexOf_none h4]

end Sys2Proof.Machine
end

section
/-! PROOFS. The end of a boot read, and what the validation of an image finds. -/

namespace Sys2Proof.Machine

/-! ## The least offset with a property -/

/-- `f` is the least number with a property, and nothing when no number has it. -/
def Finds (f : Option Nat) (P : Nat → Prop) : Prop :=
  (∀ o : Nat, f = some o → P o) ∧ ∀ o : Nat, P o → ∃ least : Nat, f = some least ∧ least ≤ o

theorem Finds.congr {f : Option Nat} {P Q : Nat → Prop} (h : Finds f P) (hiff : ∀ o, P o ↔ Q o) :
    Finds f Q :=
  ⟨fun o ho => (hiff o).mp (h.1 o ho), fun o ho => h.2 o ((hiff o).mpr ho)⟩

theorem Finds.none_of {f : Option Nat} {P : Nat → Prop} (h : Finds f P) (hnone : ∀ o, ¬ P o) :
    f = none := by
  cases hf : f with
  | none => rfl
  | some o => exact absurd (h.1 o hf) (hnone o)

theorem Finds.least {f : Option Nat} {P : Nat → Prop} (h : Finds f P) {o : Nat} (ho : P o)
    (hlower : ∀ lower : Nat, lower < o → ¬ P lower) : f = some o := by
  obtain ⟨least, hf, hle⟩ := h.2 o ho
  rcases Nat.lt_or_eq_of_le hle with hlt | rfl
  · exact absurd (h.1 least hf) (hlower least hlt)
  · exact hf

/-- One test, at one offset. -/
theorem finds_test (c : Prop) [Decidable c] (j : Nat) :
    Finds (if c then some j else none) fun o => o = j ∧ c := by
  by_cases hc : c
  · rw [if_pos hc]
    exact ⟨fun o ho => ⟨(Option.some.inj ho).symm, hc⟩, fun o ho => ⟨j, rfl, ho.1.ge⟩⟩
  · rw [if_neg hc]
    exact ⟨nofun, fun o ho => absurd ho.2 hc⟩

/-- A test, and a search at higher offsets where it does not hold. -/
theorem Finds.ite {c : Prop} [Decidable c] {g : Option Nat} {Q : Nat → Prop} {j : Nat}
    (hg : Finds g Q) (hle : ∀ o : Nat, Q o → j ≤ o) :
    Finds (if c then some j else g) fun o => (o = j ∧ c) ∨ Q o := by
  by_cases hc : c
  · rw [if_pos hc]
    refine ⟨fun o ho => .inl ⟨(Option.some.inj ho).symm, hc⟩, fun o ho => ⟨j, rfl, ?_⟩⟩
    exact ho.elim (fun h => h.1.ge) (hle o)
  · rw [if_neg hc]
    exact ⟨fun o ho => .inr (hg.1 o ho), fun o ho => hg.2 o (ho.resolve_left fun h => hc h.2)⟩

/-- A search, then another one at higher offsets. -/
theorem Finds.or {f g : Option Nat} {P Q : Nat → Prop} (hf : Finds f P) (hg : Finds g Q)
    (hle : ∀ o o' : Nat, P o → Q o' → o ≤ o') : Finds (f.or g) fun o => P o ∨ Q o := by
  cases hfo : f with
  | none =>
    refine ⟨fun o ho => .inr (hg.1 o ho), fun o ho => ?_⟩
    rcases ho with ho | ho
    · obtain ⟨least, hl, -⟩ := hf.2 o ho
      rw [hfo] at hl
      cases hl
    · exact hg.2 o ho
  | some x =>
    have hx := hf.1 x hfo
    refine ⟨fun o ho => .inl (Option.some.inj ho ▸ hx), fun o ho => ⟨x, rfl, ?_⟩⟩
    rcases ho with ho | ho
    · obtain ⟨least, hl, hle'⟩ := hf.2 o ho
      rw [hfo] at hl
      exact Option.some.inj hl ▸ hle'
    · exact hle x o hx ho

/-- The offsets of a search, moved up. -/
theorem Finds.shift {f : Option Nat} {P : Nat → Prop} (h : Finds f P) (start : Nat) :
    Finds (f.map (start + ·)) fun o => ∃ j : Nat, o = start + j ∧ P j := by
  constructor
  · intro o ho
    obtain ⟨j, hj, rfl⟩ := Option.map_eq_some_iff.mp ho
    exact ⟨j, rfl, h.1 j hj⟩
  · rintro o ⟨j, rfl, hj⟩
    obtain ⟨least, hl, hle⟩ := h.2 j hj
    exact ⟨start + least, by rw [hl]; rfl, by omega⟩

/-- A search through one record after another. -/
theorem finds_run {f g : Nat → Option Nat} {P : Nat → Nat → Prop} (h0 : f 0 = none)
    (hsucc : ∀ k, f (k + 1) = (f k).or (g k)) (hg : ∀ k, Finds (g k) (P k))
    (hle : ∀ k k' o o' : Nat, k < k' → P k o → P k' o' → o ≤ o') (n : Nat) :
    Finds (f n) fun o => ∃ k : Nat, k < n ∧ P k o := by
  induction n with
  | zero =>
    rw [h0]
    exact ⟨nofun, fun o ⟨k, hk, _⟩ => absurd hk (Nat.not_lt_zero k)⟩
  | succ n ih =>
    rw [hsucc]
    refine (ih.or (hg n) fun o o' ⟨k, hk, ho⟩ ho' => hle k n o o' hk ho ho').congr fun o => ?_
    constructor
    · rintro (⟨k, hk, ho⟩ | ho)
      · exact ⟨k, by omega, ho⟩
      · exact ⟨n, by omega, ho⟩
    · rintro ⟨k, hk, ho⟩
      rcases Nat.lt_succ_iff_lt_or_eq.mp hk with hk | rfl
      · exact .inl ⟨k, hk, ho⟩
      · exact .inr ho

/-! ## The records of an image -/

/-- Profile record `k` of an image (R181). -/
def profRecord (img : List Byte) (k : Nat) : ImageRecord :=
  { offset := 5 + 15 * k, bytes := slice img (5 + 15 * k) 15 }

/-- The image offset of window record `k` (R181). -/
def winStart (img : List Byte) (k : Nat) : Nat := 5 + 15 * profileCountOf img + 16 * k

/-- Window record `k` of an image (R181). -/
def winRecord (img : List Byte) (k : Nat) : ImageRecord :=
  { offset := winStart img k, bytes := slice img (winStart img k) 16 }

theorem profileRecords_eq (img : List Byte) :
    profileRecords img = (List.range (profileCountOf img)).map (profRecord img) := rfl

theorem windowRecords_eq (img : List Byte) :
    windowRecords img = (List.range (windowCountOf img)).map (winRecord img) := rfl

/-- A byte of a slice is a byte of the image. -/
theorem byteAt_slice {img : List Byte} {start count k : Nat} (h : k < count) :
    byteAt (slice img start count) k = byteAt img (start + k) := by
  simp [byteAt, slice, List.getD_eq_getElem?_getD, List.getElem?_drop, h]

theorem u32At_slice {img : List Byte} {start count k : Nat} (h : k + 3 < count) :
    u32At (slice img start count) k = u32At img (start + k) := by
  simp only [u32At]
  rw [byteAt_slice (by omega), byteAt_slice (by omega), byteAt_slice (by omega),
    byteAt_slice (by omega)]
  rfl

theorem map_range_succ {α : Type} (f : Nat → α) (n : Nat) :
    (List.range (n + 1)).map f = (List.range n).map f ++ [f n] := by
  rw [List.range_succ, List.map_append, List.map_singleton]

/-- The first record that passes a test, at an offset that goes up with the records. -/
theorem finds_record {rec : Nat → ImageRecord} {off : ImageRecord → Nat} {p : ImageRecord → Bool}
    (hoff : ∀ k k' : Nat, k < k' → off (rec k) ≤ off (rec k')) (n : Nat) :
    Finds ((((List.range n).map rec).find? p).map off)
      fun o => ∃ k : Nat, k < n ∧ o = off (rec k) ∧ p (rec k) = true := by
  refine finds_run (f := fun n => (((List.range n).map rec).find? p).map off) rfl (fun k => ?_)
    (fun k => finds_test (p (rec k) = true) (off (rec k))) (fun k k' o o' hk ho ho' => ?_) n
  · simp only [map_range_succ, List.find?_append, Option.map_or]
    congr 1
    by_cases hp : p (rec k) = true <;> simp [hp]
  · rw [ho.1, ho'.1]
    exact hoff k k' hk

/-- The first index that passes a test. -/
theorem finds_index (p : Nat → Bool) (n : Nat) :
    Finds ((List.range n).find? p) fun o => ∃ k : Nat, k < n ∧ o = k ∧ p k = true := by
  refine finds_run (f := fun n => (List.range n).find? p) rfl (fun k => ?_)
    (fun k => finds_test (p k = true) k) (fun k k' o o' hk ho ho' => by omega) n
  simp only [List.range_succ, List.find?_append]
  congr 1
  by_cases hp : p k = true <;> simp [hp]

/-- The first byte, through the records, at which a search inside them ends. -/
theorem finds_inside {rec : Nat → ImageRecord} {inner : List Byte → Option Nat}
    {P : Nat → Nat → Prop} {start step : Nat} (hoff : ∀ k, (rec k).offset = start + step * k)
    (hin : ∀ k, Finds (inner (rec k).bytes) (P k)) (hstep : ∀ k j, P k j → j < step) (n : Nat) :
    Finds (((List.range n).map rec).findSome? fun r => (inner r.bytes).map (r.offset + ·))
      fun o => ∃ k : Nat, k < n ∧ ∃ j : Nat, o = start + step * k + j ∧ P k j := by
  refine finds_run
    (f := fun n => ((List.range n).map rec).findSome? fun r => (inner r.bytes).map (r.offset + ·))
    rfl (fun k => ?_) (fun k => (hin k).shift (start + step * k)) (fun k k' o o' hk ho ho' => ?_) n
  · simp only [map_range_succ, List.findSome?_append, List.findSome?_singleton, hoff]
  · obtain ⟨j, rfl, hj⟩ := ho
    obtain ⟨j', rfl, -⟩ := ho'
    have hnext : step * (k + 1) ≤ step * k' := Nat.mul_le_mul_left step hk
    have hj' := hstep k j hj
    rw [Nat.mul_succ] at hnext
    omega

/-! ## Code 5: fields -/

/-- A profile field out of range, by its number (R182). -/
theorem profileByteOk_iff {k : Nat} {b : Byte} :
    (!profileByteOk k b) = true ↔ ProfileFieldBad k b := by
  have h0 : b = 0 ↔ b.toNat = 0 := byte_eq_iff
  have h1 : b = 1 ↔ b.toNat = 1 := byte_eq_iff
  have h2 : b = 2 ↔ b.toNat = 2 := byte_eq_iff
  have h3 : b = 3 ↔ b.toNat = 3 := byte_eq_iff
  have h4 : b = 4 ↔ b.toNat = 4 := byte_eq_iff
  unfold profileByteOk ProfileFieldBad
  rw [ne_eq, ne_eq, ne_eq, ne_eq, h0, h1, h2, h3, h4]
  split
  case h_9 => exact iff_of_false (by decide) (by tauto)
  all_goals simp <;> omega

theorem finds_profileBadAt (img : List Byte) (start : Nat) :
    Finds (profileBadAt (slice img start 15))
      fun j => j < 15 ∧ ProfileFieldBad j (byteAt img (start + j)) := by
  refine (finds_index (fun k => !profileByteOk k (byteAt (slice img start 15) k)) 15).congr
    fun o => ?_
  simp only [profileByteOk_iff]
  constructor
  · rintro ⟨k, hk, rfl, hbad⟩
    exact ⟨hk, byteAt_slice hk ▸ hbad⟩
  · rintro ⟨hk, hbad⟩
    exact ⟨o, hk, rfl, (byteAt_slice hk).symm ▸ hbad⟩

theorem finds_windowBadAt (img : List Byte) (start : Nat) :
    Finds (windowBadAt (slice img start 16)) fun j => j < 16 ∧ WindowFieldBad img start j := by
  have hbyte (k : Nat) (hk : k < 16) :
      byteAt (slice img start 16) k = byteAt img (start + k) := byteAt_slice hk
  have hbase : recBase (slice img start 16) = u32At img (start + 4) := u32At_slice (by decide)
  have hlimit : recLimit (slice img start 16) = u32At img (start + 8) := u32At_slice (by decide)
  have hoffset : recOffset (slice img start 16) = u32At img (start + 12) := u32At_slice (by decide)
  have hrights : (!rightsByteOk (byteAt img (start + 2))) = true ↔
      byteAt img (start + 2) = 0 ∨ 7 < (byteAt img (start + 2)).toNat := by
    have h0 : byteAt img (start + 2) = 0 ↔ (byteAt img (start + 2)).toNat = 0 := byte_eq_iff
    rw [h0]
    simp only [rightsByteOk, Bool.not_eq_true', Bool.and_eq_false_iff, decide_eq_false_iff_not]
    omega
  have haligned (a : Addr) : (!aligned1024 a) = true ↔ a.toNat % 1024 ≠ 0 := by
    simp [aligned1024]
  have hlimitOk (b l : Addr) : (!limitOk b l) = true ↔
      (l.toNat + 1) % 1024 ≠ 0 ∨ l.toNat < b.toNat := by
    simp only [limitOk, Bool.not_eq_true', Bool.and_eq_false_iff, decide_eq_false_iff_not, not_le]
  unfold windowBadAt
  rw [hbyte 0 (by decide), hbyte 1 (by decide), hbyte 2 (by decide), hbyte 3 (by decide), hbase,
    hlimit, hoffset, Nat.add_zero]
  refine (Finds.ite (Finds.ite (Finds.ite (Finds.ite (Finds.ite (Finds.ite (finds_test _ 12)
    ?_) ?_) ?_) ?_) ?_) ?_).congr fun j => ?_
  case refine_7 =>
    simp only [hrights, haligned, hlimitOk, WindowFieldBad]
    exact ⟨fun h => ⟨by omega, h⟩, fun h => h.2⟩
  all_goals
    intro o h
    omega

theorem finds_recordBadAt (img : List Byte) :
    Finds (recordBadAt img) fun o =>
      (∃ k : Nat, k < profileCountOf img ∧ ∃ j : Nat, o = 5 + 15 * k + j ∧ j < 15 ∧
        ProfileFieldBad j (byteAt img (5 + 15 * k + j))) ∨
      ∃ k : Nat, k < windowCountOf img ∧ ∃ j : Nat,
        o = 5 + 15 * profileCountOf img + 16 * k + j ∧ j < 16 ∧
        WindowFieldBad img (winStart img k) j := by
  rw [recordBadAt, profileRecords_eq, windowRecords_eq]
  refine (finds_inside (rec := profRecord img) (inner := profileBadAt) (fun _ => rfl)
    (fun k => finds_profileBadAt img (5 + 15 * k)) (fun _ _ h => h.1) _).or
    (finds_inside (rec := winRecord img) (inner := windowBadAt) (fun _ => rfl)
      (fun k => finds_windowBadAt img (winStart img k)) (fun _ _ h => h.1) _) ?_
  rintro o o' ⟨k, hk, j, rfl, hj, -⟩ ⟨k', -, j', rfl, -⟩
  omega

/-! ## Codes 6 and 8: a record compared with the earlier ones -/

/-- The last of some records repeats an index, where none before it does. -/
theorem firstRepeat_concat (seen : List Byte) (rs : List ImageRecord) (r : ImageRecord) :
    firstRepeat seen (rs ++ [r]) = (firstRepeat seen rs).or
      (if seen.contains r.index || rs.any fun q => q.index == r.index then some r.offset
        else none) := by
  induction rs generalizing seen with
  | nil => simp [firstRepeat, ImageRecord.index]
  | cons q rs ih =>
    simp only [List.cons_append, firstRepeat]
    by_cases hq : seen.contains (byteAt q.bytes 0) = true
    · rw [if_pos hq, if_pos hq]
      rfl
    · rw [if_neg hq, if_neg hq, ih]
      congr 1
      refine if_congr ?_ rfl rfl
      simp only [List.contains_cons, List.any_cons, Bool.or_eq_true, beq_iff_eq,
        ImageRecord.index]
      tauto

/-- The last of some records overlaps one before it, where none before it does. -/
theorem firstOverlap_concat (earlier rs : List ImageRecord) (r : ImageRecord) :
    firstOverlap earlier (rs ++ [r]) = (firstOverlap earlier rs).or
      (if earlier.any r.meets || rs.any r.meets then some r.offset else none) := by
  induction rs generalizing earlier with
  | nil => simp [firstOverlap, ImageRecord.meets]
  | cons q rs ih =>
    simp only [List.cons_append, firstOverlap]
    split
    · rfl
    · rw [ih]
      congr 1
      refine if_congr ?_ rfl rfl
      simp only [List.any_cons, Bool.or_eq_true]
      tauto

/-- The first record that repeats an index of an earlier one. -/
theorem finds_firstRepeat {rec : Nat → ImageRecord}
    (hoff : ∀ k k' : Nat, k < k' → (rec k).offset ≤ (rec k').offset) (n : Nat) :
    Finds (firstRepeat [] ((List.range n).map rec)) fun o =>
      ∃ k : Nat, k < n ∧ o = (rec k).offset ∧ ∃ j : Nat, j < k ∧ (rec j).index = (rec k).index := by
  refine (finds_run (f := fun n => firstRepeat [] ((List.range n).map rec)) rfl (fun k => ?_)
    (fun k => finds_test (([].contains (rec k).index || ((List.range k).map rec).any
      fun q => q.index == (rec k).index) = true) (rec k).offset)
    (fun k k' o o' hk ho ho' => ?_) n).congr fun o => ?_
  · simp only [map_range_succ, firstRepeat_concat]
  · rw [ho.1, ho'.1]
    exact hoff k k' hk
  · simp

/-- The first record that passes a test and overlaps an earlier one that does. -/
theorem finds_firstOverlap {rec : Nat → ImageRecord} {p : ImageRecord → Bool}
    (hoff : ∀ k k' : Nat, k < k' → (rec k).offset ≤ (rec k').offset) (n : Nat) :
    Finds (firstOverlap [] (((List.range n).map rec).filter p)) fun o =>
      ∃ k : Nat, k < n ∧ o = (rec k).offset ∧ p (rec k) = true ∧
        ∃ j : Nat, j < k ∧ p (rec j) = true ∧ (rec k).meets (rec j) = true := by
  refine (finds_run (f := fun n => firstOverlap [] (((List.range n).map rec).filter p)) rfl
    (fun k => ?_) (fun k => finds_test ((p (rec k) && ((((List.range k).map rec).filter p).any
      (rec k).meets)) = true) (rec k).offset) (fun k k' o o' hk ho ho' => ?_) n).congr fun o => ?_
  · simp only [map_range_succ, List.filter_append]
    by_cases hp : p (rec k) = true
    · rw [List.filter_singleton, hp]
      simp [firstOverlap_concat]
    · simp [hp]
  · rw [ho.1, ho'.1]
    exact hoff k k' hk
  · simp

/-! ## The six checks, code by code -/

/-- What the check of a code finds in an image (R181). -/
def failureAt (img : List Byte) (code : Nat) : Option Nat :=
  match code with
  | 4 => (checksumFailure img).map LoadFailure.offset
  | 5 => recordBadAt img
  | 6 => duplicateAt img
  | 7 => referenceAt img
  | 8 => overlapAt img
  | 9 => fitAt img
  | _ => none

/-- The first code whose check finds something is reported, with what it finds (R181). -/
theorem imageFailure_first {img : List Byte} {code offset : Nat}
    (h : failureAt img code = some offset)
    (hfirst : ∀ earlier : Nat, earlier < code → failureAt img earlier = none) :
    imageFailure img = some { code := code, offset := offset } := by
  have hchecksum : 4 < code → checksumFailure img = none := fun hc => by
    simpa [failureAt] using hfirst 4 hc
  have hfield (hc : 5 < code) : recordBadAt img = none := hfirst 5 hc
  have hrepeat (hc : 6 < code) : duplicateAt img = none := hfirst 6 hc
  have hrefer (hc : 7 < code) : referenceAt img = none := hfirst 7 hc
  have hoverlap (hc : 8 < code) : overlapAt img = none := hfirst 8 hc
  unfold failureAt at h
  unfold imageFailure
  split at h
  · unfold checksumFailure at h ⊢
    split at h
    · cases h
    · next hbad =>
      cases h
      simp [hbad]
  · simp [hchecksum, h]
  · simp [hchecksum, hfield, h]
  · simp [hchecksum, hfield, hrepeat, h]
  · simp [hchecksum, hfield, hrepeat, hrefer, h]
  · simp [hchecksum, hfield, hrepeat, hrefer, hoverlap, h]
  · cases h

/-- Where no check finds anything the image is good (R181). -/
theorem imageFailure_none_of {img : List Byte} (h : ∀ code : Nat, failureAt img code = none) :
    imageFailure img = none :=
  imageFailure_none.mpr ⟨by simpa [failureAt] using h 4, h 5, h 6, h 7, h 8, h 9⟩

/-- The trailer of an image differs from the sum of its bytes (R181). -/
def ChecksumFault (img : List Byte) (offset : Nat) : Prop :=
  offset = announcedSize img - 2 ∧ u16At img (announcedSize img - 2) ≠
    ((img.take (announcedSize img - 2)).map BitVec.toNat).sum % 65536

/-- Two profile records, or two window records, of one index (R181). -/
def DuplicateFault (img : List Byte) (offset : Nat) : Prop :=
  (∃ j k : Nat, j < k ∧ k < profileCountOf img ∧ offset = 5 + 15 * k ∧
    byteAt img (5 + 15 * j) = byteAt img (5 + 15 * k)) ∨
  ∃ j k : Nat, j < k ∧ k < windowCountOf img ∧ offset = winStart img k ∧
    byteAt img (winStart img j) = byteAt img (winStart img k)

/-- A window record whose target has no profile record (R181). -/
def ReferenceFault (img : List Byte) (offset : Nat) : Prop :=
  ∃ k : Nat, k < windowCountOf img ∧ offset = winStart img k + 3 ∧
    ∀ j : Nat, j < profileCountOf img → byteAt img (5 + 15 * j) ≠ byteAt img (winStart img k + 3)

/-- The code of a fault says which check it fails. -/
theorem imageFault_checksum {img : List Byte} {offset : Nat} :
    ImageFault img 4 offset ↔ ChecksumFault img offset := by
  unfold ImageFault
  simp only [Nat.reduceEqDiff, false_and, or_false, true_and]
  rfl

theorem imageFault_duplicate {img : List Byte} {offset : Nat} :
    ImageFault img 6 offset ↔ DuplicateFault img offset := by
  unfold ImageFault
  simp only [Nat.reduceEqDiff, false_and, or_false, false_or, true_and]
  rfl

theorem imageFault_reference {img : List Byte} {offset : Nat} :
    ImageFault img 7 offset ↔ ReferenceFault img offset := by
  unfold ImageFault
  simp only [Nat.reduceEqDiff, false_and, or_false, false_or, true_and]
  rfl

end Sys2Proof.Machine
end

section
/-! PROOFS. The six checks of an image find its faults, and the ends of the boot reads. -/

namespace Sys2Proof.Machine

/-! ## Each check finds the faults of its code -/

section
variable {img : List Byte}

theorem profRecord_index (k : Nat) : (profRecord img k).index = byteAt img (5 + 15 * k) :=
  byteAt_slice (by decide)

theorem winRecord_index (k : Nat) : (winRecord img k).index = byteAt img (winStart img k) :=
  byteAt_slice (by decide)

theorem winRecord_byte {k j : Nat} (h : j < 16) :
    byteAt (winRecord img k).bytes j = byteAt img (winStart img k + j) := byteAt_slice h

theorem winRecord_opens {k : Nat} :
    recOpens (winRecord img k).bytes = true ↔ byteAt img (winStart img k + 1) = 1 := by
  rw [recOpens, winRecord_byte (by decide), beq_iff_eq]

theorem winRecord_addresses (k : Nat) :
    recBase (winRecord img k).bytes = u32At img (winStart img k + 4) ∧
      recLimit (winRecord img k).bytes = u32At img (winStart img k + 8) ∧
      recOffset (winRecord img k).bytes = u32At img (winStart img k + 12) :=
  ⟨u32At_slice (by decide), u32At_slice (by decide), u32At_slice (by decide)⟩

theorem finds_checksum : Finds ((checksumFailure img).map LoadFailure.offset) (ImageFault img 4) := by
  have hmap : (checksumFailure img).map LoadFailure.offset =
      if u16At img (announcedSize img - 2) ≠ sum16 (img.take (announcedSize img - 2)) then
        some (announcedSize img - 2) else none := by
    unfold checksumFailure
    by_cases h : u16At img (announcedSize img - 2) = sum16 (img.take (announcedSize img - 2)) <;>
      simp [h]
  rw [hmap]
  refine (finds_test _ _).congr fun o => ?_
  rw [imageFault_checksum, ChecksumFault, sum16_eq]

theorem finds_field : Finds (recordBadAt img) (ImageFault img 5) := by
  refine (finds_recordBadAt img).congr fun o => ?_
  unfold ImageFault
  simp only [Nat.reduceEqDiff, false_and, or_false, false_or, true_and]
  refine or_congr ⟨?_, ?_⟩ ⟨?_, ?_⟩
  · rintro ⟨k, hk, j, rfl, hj, hbad⟩
    exact ⟨k, j, hk, hj, rfl, hbad⟩
  · rintro ⟨k, j, hk, hj, rfl, hbad⟩
    exact ⟨k, hk, j, rfl, hj, hbad⟩
  · rintro ⟨k, hk, j, rfl, hj, hbad⟩
    exact ⟨k, j, hk, hj, rfl, hbad⟩
  · rintro ⟨k, j, hk, hj, rfl, hbad⟩
    exact ⟨k, hk, j, rfl, hj, hbad⟩

theorem winRecord_offset_le {k k' : Nat} (h : k < k') :
    (winRecord img k).offset ≤ (winRecord img k').offset := by
  show winStart img k ≤ winStart img k'
  unfold winStart
  omega

theorem finds_duplicate : Finds (duplicateAt img) (ImageFault img 6) := by
  have hprof := finds_firstRepeat (rec := profRecord img)
    (fun k k' hk => by show 5 + 15 * k ≤ 5 + 15 * k'; omega) (profileCountOf img)
  have hwin := finds_firstRepeat (rec := winRecord img) (fun k k' hk => winRecord_offset_le hk)
    (windowCountOf img)
  rw [duplicateAt, profileRecords_eq, windowRecords_eq]
  refine (hprof.or hwin fun o o' ho ho' => ?_).congr fun o => ?_
  · obtain ⟨k, hk, rfl, -⟩ := ho
    obtain ⟨k', -, rfl, -⟩ := ho'
    show 5 + 15 * k ≤ winStart img k'
    unfold winStart
    omega
  · rw [imageFault_duplicate, DuplicateFault]
    refine or_congr ⟨?_, ?_⟩ ⟨?_, ?_⟩
    · rintro ⟨k, hk, rfl, j, hj, hsame⟩
      exact ⟨j, k, hj, hk, rfl, by rwa [profRecord_index, profRecord_index] at hsame⟩
    · rintro ⟨j, k, hj, hk, rfl, hsame⟩
      exact ⟨k, hk, rfl, j, hj, by rwa [profRecord_index, profRecord_index]⟩
    · rintro ⟨k, hk, rfl, j, hj, hsame⟩
      exact ⟨j, k, hj, hk, rfl, by rwa [winRecord_index, winRecord_index] at hsame⟩
    · rintro ⟨j, k, hj, hk, rfl, hsame⟩
      exact ⟨k, hk, rfl, j, hj, by rwa [winRecord_index, winRecord_index]⟩

/-- The target byte has no profile record (R181). -/
theorem profileRecordFor_isNone {target : Byte} :
    (profileRecordFor img target).isNone = true ↔
      ∀ j : Nat, j < profileCountOf img → byteAt img (5 + 15 * j) ≠ target := by
  rw [Option.isNone_iff_eq_none, profileRecordFor, profileRecords_eq, List.find?_eq_none]
  simp only [List.mem_map, List.mem_range, forall_exists_index, and_imp, forall_apply_eq_imp_iff₂,
    beq_iff_eq]
  refine forall_congr' fun j => imp_congr_right fun _ => not_congr ?_
  rw [show byteAt (profRecord img j).bytes 0 = _ from profRecord_index j]

theorem finds_reference : Finds (referenceAt img) (ImageFault img 7) := by
  have hrun := finds_record (rec := winRecord img) (off := fun r => r.offset + 3)
    (p := fun r => (profileRecordFor img (byteAt r.bytes 3)).isNone)
    (fun k k' hk => Nat.add_le_add_right (winRecord_offset_le hk) 3) (windowCountOf img)
  rw [referenceAt, windowRecords_eq]
  refine hrun.congr fun o => ?_
  rw [imageFault_reference, ReferenceFault]
  simp only [profileRecordFor_isNone, winRecord_byte (show 3 < 16 by decide)]
  rfl

/-- Two window records share a bridge address (R8). -/
theorem winRecord_meets {j k : Nat} :
    (winRecord img k).meets (winRecord img j) = true ↔
      (u32At img (winStart img j + 4)).toNat ≤ (u32At img (winStart img k + 8)).toNat ∧
      (u32At img (winStart img k + 4)).toNat ≤ (u32At img (winStart img j + 8)).toNat := by
  obtain ⟨hbj, hlj, -⟩ := winRecord_addresses (img := img) j
  obtain ⟨hbk, hlk, -⟩ := winRecord_addresses (img := img) k
  rw [ImageRecord.meets, hbj, hlj, hbk, hlk]
  simp only [rangesMeet, Bool.and_eq_true, Bool.not_eq_true', decide_eq_false_iff_not, not_lt]
  exact and_comm

theorem finds_overlap : Finds (overlapAt img) (ImageFault img 8) := by
  have hrun := finds_firstOverlap (rec := winRecord img) (p := fun r => recOpens r.bytes)
    (fun k k' hk => winRecord_offset_le hk) (windowCountOf img)
  rw [overlapAt, windowRecords_eq]
  refine hrun.congr fun o => ?_
  unfold ImageFault
  simp only [Nat.reduceEqDiff, false_and, or_false, false_or, true_and]
  simp only [winRecord_opens, winRecord_meets]
  constructor
  · rintro ⟨k, hk, rfl, hok, j, hj, hoj, hjk, hkj⟩
    exact ⟨j, k, hj, hk, rfl, hoj, hok, hjk, hkj⟩
  · rintro ⟨j, k, hj, hk, rfl, hoj, hok, hjk, hkj⟩
    exact ⟨k, hk, rfl, hok, j, hj, hoj, hjk, hkj⟩

/-- Where no two profile records have one index, the record of a target is the one found (R181). -/
theorem profileRecordFor_eq (hdup : ∀ o, ¬ ImageFault img 6 o) {j : Nat}
    (hj : j < profileCountOf img) :
    profileRecordFor img (byteAt img (5 + 15 * j)) = some (profRecord img j) := by
  cases hfound : profileRecordFor img (byteAt img (5 + 15 * j)) with
  | none =>
    exact absurd rfl (profileRecordFor_isNone.mp (by rw [hfound]; rfl) j hj)
  | some r =>
    have hmem := List.mem_of_find?_eq_some hfound
    have hindex := List.find?_some hfound
    rw [profileRecords_eq, List.mem_map] at hmem
    obtain ⟨i, hi, rfl⟩ := hmem
    rw [List.mem_range] at hi
    rw [beq_iff_eq, show byteAt (profRecord img i).bytes 0 = _ from profRecord_index i] at hindex
    have hsame : i = j := by
      by_contra hne
      rcases Nat.lt_or_gt_of_ne hne with hlt | hlt
      · exact hdup _ (imageFault_duplicate.mpr (.inl ⟨i, j, hlt, hj, rfl, hindex⟩))
      · exact hdup _ (imageFault_duplicate.mpr (.inl ⟨j, i, hlt, hi, rfl, hindex.symm⟩))
    rw [hsame]

/-- A window record that its target's profile record does not fit (R9, R181). -/
theorem recordFits_false (hdup : ∀ o, ¬ ImageFault img 6 o) (href : ∀ o, ¬ ImageFault img 7 o)
    {k : Nat} (hk : k < windowCountOf img) :
    recordFits img (winRecord img k).bytes = false ↔
      ∃ j : Nat, j < profileCountOf img ∧
        byteAt img (5 + 15 * j) = byteAt img (winStart img k + 3) ∧
        2 ^ (8 * (byteAt img (5 + 15 * j + 1)).toNat) ≤
          (u32At img (winStart img k + 12)).toNat + ((u32At img (winStart img k + 8)).toNat -
            (u32At img (winStart img k + 4)).toNat) := by
  obtain ⟨hb, hl, ho⟩ := winRecord_addresses (img := img) k
  have hfits {j : Nat} (hj : j < profileCountOf img)
      (hindex : byteAt img (5 + 15 * j) = byteAt img (winStart img k + 3)) :
      recordFits img (winRecord img k).bytes = fits (byteAt img (5 + 15 * j + 1)).toNat
        (u32At img (winStart img k + 4)) (u32At img (winStart img k + 8))
        (u32At img (winStart img k + 12)) := by
    have hbyte : byteAt (profRecord img j).bytes 1 = byteAt img (5 + 15 * j + 1) :=
      byteAt_slice (by decide)
    rw [recordFits, winRecord_byte (by decide), ← hindex, profileRecordFor_eq hdup hj, hb, hl, ho]
    show fits (byteAt (profRecord img j).bytes 1).toNat _ _ _ = _
    rw [hbyte]
  obtain ⟨j, hj, hindex⟩ : ∃ j : Nat, j < profileCountOf img ∧
      byteAt img (5 + 15 * j) = byteAt img (winStart img k + 3) := by
    by_contra hnone
    exact href _ (imageFault_reference.mpr ⟨k, hk, rfl, fun j hj he => hnone ⟨j, hj, he⟩⟩)
  constructor
  · intro hbad
    rw [hfits hj hindex, fits, decide_eq_false_iff_not, not_lt] at hbad
    exact ⟨j, hj, hindex, hbad⟩
  · rintro ⟨i, hi, hindex', hbig⟩
    rw [hfits hi hindex', fits, decide_eq_false_iff_not, not_lt]
    exact hbig

theorem finds_fit (hdup : ∀ o, ¬ ImageFault img 6 o) (href : ∀ o, ¬ ImageFault img 7 o) :
    Finds (fitAt img) (ImageFault img 9) := by
  have hrun := finds_record (rec := winRecord img) (off := ImageRecord.offset)
    (p := fun r => recOpens r.bytes && !recordFits img r.bytes)
    (fun k k' hk => winRecord_offset_le hk) (windowCountOf img)
  rw [fitAt, windowRecords_eq]
  refine hrun.congr fun o => ?_
  unfold ImageFault
  simp only [Nat.reduceEqDiff, false_and, false_or, true_and]
  simp only [Bool.and_eq_true, Bool.not_eq_true', winRecord_opens]
  constructor
  · rintro ⟨k, hk, rfl, hopen, hbad⟩
    obtain ⟨j, hj, hindex, hbig⟩ := (recordFits_false hdup href hk).mp hbad
    exact ⟨j, k, hj, hk, rfl, hopen, hindex, hbig⟩
  · rintro ⟨j, k, hj, hk, rfl, hopen, hindex, hbig⟩
    exact ⟨k, hk, rfl, hopen, (recordFits_false hdup href hk).mpr ⟨j, hj, hindex, hbig⟩⟩

/-- Where no earlier check fails, the check of a code finds the faults of its code (R181). -/
theorem finds_failureAt {code : Nat}
    (hearlier : ∀ earlier any : Nat, earlier < code → ¬ ImageFault img earlier any) :
    Finds (failureAt img code) (ImageFault img code) := by
  unfold failureAt
  split
  · exact finds_checksum
  · exact finds_field
  · exact finds_duplicate
  · exact finds_reference
  · exact finds_overlap
  · exact finds_fit (fun o => hearlier 6 o (by decide)) (fun o => hearlier 7 o (by decide))
  · refine ⟨nofun, fun o ho => ?_⟩
    rcases ho with ⟨h, -⟩ | ⟨h, -⟩ | ⟨h, -⟩ | ⟨h, -⟩ | ⟨h, -⟩ | ⟨h, -⟩ <;> contradiction

/-- The validation reports the first code that fails, at its lowest offset (R181). -/
theorem imageFailure_least {code offset : Nat} (h : ImageFault img code offset)
    (hlower : ∀ lower : Nat, lower < offset → ¬ ImageFault img code lower)
    (hearlier : ∀ earlier any : Nat, earlier < code → ¬ ImageFault img earlier any) :
    imageFailure img = some { code := code, offset := offset } :=
  imageFailure_first ((finds_failureAt hearlier).least h hlower) fun earlier hlt =>
    (finds_failureAt fun e any he => hearlier e any (by omega)).none_of fun o =>
      hearlier earlier o hlt

end

/-! ## The ends of the boot reads -/

/-- The uncut end of a boot read, all its bytes driven (R179). -/
theorem exec_bootReadEnd {a : Access} {data : List Byte} {lk : LkLevels} {s : State}
    (hrun : s.inReset = false) (ha : s.lanes[0].access = some a) (htag : a.tag = none)
    (hlen : data.length = a.bytesIn) :
    exec (.accessEnd 0 data lk) s =
      .next (afterEvent (arbitrate 0 (laneIdle 0 (bootReadEnds data { s with lk := lk })))) := by
  have hexec : exec (.accessEnd 0 data lk) s =
      whileRunning s (endAccess 0 data (withLk lk s)) := rfl
  have hbytes : sampledBytes a.bytesIn data s.freeCount = data := by
    simp [sampledBytes, ← hlen]
  have hfree : advanceFree a.bytesIn data { s with lk := lk } = { s with lk := lk } := by
    simp [advanceFree, ← hlen]
  have ha' : ({ s with lk := lk } : State).lanes[(0 : LaneIx).val].access = some a := ha
  rw [hexec, whileRunning_running hrun, withLk_running hrun, endAccess, ha']
  simp only [htag, hfree]
  rw [hbytes]

section
variable {bytes : List Byte} {s : State}

/-- A load that fails: the E15 occurrence with the code and the offset, and the end of the load
(R184). -/
theorem loadFail_eq (f : LoadFailure) (s : State) :
    loadFail f s = { occur 15 (BitVec.ofNat 32 (f.code + 256 * f.offset)) s with
      loadOutcome := .failed, failureCode := f.code, loadPhase := none, loadBuffer := []
      bootRead := none, link := .closed, cache := none } := rfl

/-- A header that fails a check ends the load (R180, R184). -/
theorem bootReadEnds_badHeader {f : LoadFailure} (h : s.loadPhase = some .header)
    (hf : headerFailure bytes = some f) : bootReadEnds bytes s = loadFail f s := by
  simp only [bootReadEnds, h, hf]

/-- A good header leads to the first body read (R179, R180). -/
theorem bootReadEnds_goodHeader (h : s.loadPhase = some .header)
    (hf : headerFailure bytes = none) :
    bootReadEnds bytes s = { s with
      loadPhase := some .body, loadBuffer := bytes, bootRead := some (nextBodyRead bytes) } := by
  simp only [bootReadEnds, h, hf]

/-- A body read before the last leads to the next one (R179). -/
theorem bootReadEnds_more (h : s.loadPhase = some .body)
    (hmore : (s.loadBuffer ++ bytes).length < announcedSize (s.loadBuffer ++ bytes)) :
    bootReadEnds bytes s = { s with
      loadBuffer := s.loadBuffer ++ bytes,
      bootRead := some (nextBodyRead (s.loadBuffer ++ bytes)) } := by
  simp only [bootReadEnds, h, if_pos hmore]

/-- The last body read leads to the failure found (R181, R184). -/
theorem bootReadEnds_badImage {f : LoadFailure} (h : s.loadPhase = some .body)
    (hall : announcedSize (s.loadBuffer ++ bytes) ≤ (s.loadBuffer ++ bytes).length)
    (hf : imageFailure (s.loadBuffer ++ bytes) = some f) :
    bootReadEnds bytes s = loadFail f s := by
  simp only [bootReadEnds, h, if_neg (Nat.not_lt.mpr hall), hf]

/-- The last body read of a good image has it applied (R185). -/
theorem bootReadEnds_goodImage (h : s.loadPhase = some .body)
    (hall : announcedSize (s.loadBuffer ++ bytes) ≤ (s.loadBuffer ++ bytes).length)
    (hf : imageFailure (s.loadBuffer ++ bytes) = none) :
    bootReadEnds bytes s = applyImage (s.loadBuffer ++ bytes) s := by
  simp only [bootReadEnds, h, if_neg (Nat.not_lt.mpr hall), hf]

end

/-- The first body read: the bytes after the header, up to 256 (R179). -/
theorem nextBodyRead_header {bytes : List Byte} (h : bytes.length = 5) :
    nextBodyRead bytes = {
      address := 5
      count := min 256
        (2 + 15 * (byteAt bytes 3).toNat + 16 * (byteAt bytes 4).toNat) } := by
  have hsize : announcedSize bytes - 5 =
      2 + 15 * (byteAt bytes 3).toNat + 16 * (byteAt bytes 4).toNat := by
    rw [announcedSize, imageSize, profileCountOf, windowCountOf]
    omega
  rw [nextBodyRead, h, hsize, bootReadLimit]

/-- A header with its marks and version leaves its two counts to check (R180). -/
theorem headerFailure_of_marks {h : List Byte} (h0 : byteAt h 0 = 0x4F) (h1 : byteAt h 1 = 0x43)
    (h2 : byteAt h 2 = 1) :
    headerFailure h =
      if 8 < (byteAt h 3).toNat then some { code := 3, offset := 3 }
      else if 16 < (byteAt h 4).toNat then some { code := 3, offset := 4 } else none := by
  rw [headerFailure, if_neg (not_not.mpr h0), if_neg (not_not.mpr h1), if_neg (not_not.mpr h2),
    profileCountOf, windowCountOf]

/-- Settles O49: each end of a boot read by the branch of `bootReadEnds` it takes, and the failure
found as the first search, by code, that meets a faulty offset. -/
theorem bootReadEndsTakeTheImage : Obligations.BootReadEndsTakeTheImage := by
  refine ⟨fun a data lk s hrun ha htag hlen => ?_, fun img => ⟨fun code offset h hlower hearlier =>
    imageFailure_least h hlower hearlier, fun hnone => imageFailure_none_of fun code =>
      (finds_failureAt fun e any _ => hnone e any).none_of (hnone code)⟩⟩
  intro s' img ends fails
  have hends {u : State} (h : bootReadEnds data s' = u) : ends u := by
    show exec (.accessEnd 0 data lk) s = .next (afterEvent (arbitrate 0 (laneIdle 0 u)))
    rw [exec_bootReadEnd hrun ha htag hlen, ← h]
  have hheader {code offset : Nat} (h : s.loadPhase = some .header)
      (hf : headerFailure data = some { code := code, offset := offset }) : fails code offset :=
    hends ((bootReadEnds_badHeader (s := s') h hf).trans (loadFail_eq _ _))
  refine ⟨fun h => ⟨fun h0 => hheader h ?_, fun h0 h1 => hheader h ?_,
    fun h0 h1 h2 => hheader h ?_, fun h0 h1 h2 h3 => hheader h ?_,
    fun h0 h1 h2 h3 h4 => hheader h ?_, fun h0 h1 h2 h3 h4 h5 => hends ?_⟩,
    fun h => ⟨fun hmore => hends (bootReadEnds_more h hmore),
      fun f hall hf => hends
        ((bootReadEnds_badImage (s := s') h hall hf).trans (loadFail_eq f s')),
      fun hall hf => hends (bootReadEnds_goodImage h hall hf)⟩⟩
  · rw [headerFailure, if_pos h0]
  · rw [headerFailure, if_neg (not_not.mpr h0), if_pos h1]
  · rw [headerFailure, if_neg (not_not.mpr h0), if_neg (not_not.mpr h1), if_pos h2]
  · rw [headerFailure_of_marks h0 h1 h2, if_pos h3]
  · rw [headerFailure_of_marks h0 h1 h2, if_neg (Nat.not_lt.mpr h3), if_pos h4]
  · have hf : headerFailure data = none := by
      rw [headerFailure_of_marks h0 h1 h2, if_neg (Nat.not_lt.mpr h3), if_neg (Nat.not_lt.mpr h4)]
    rw [← nextBodyRead_header h5]
    exact bootReadEnds_goodHeader h hf

end Sys2Proof.Machine
end
